-- ==== Sys2Proof/Word.lean ====
section
/-! DEFINITION. The octet and word types of the AP620's two serial links and of its store, and the two shapes of
"a fixed number of like things" the manual uses: six zones or dampers, four ramp profiles or filter classes. -/
namespace Sys2Proof

/-- One octet of a frame or of the store. -/
abbrev Byte := BitVec 8
/-- A 16-bit field or counter. -/
abbrev Half := BitVec 16
/-- A 32-bit field: a time base value, a dose, a replacement stamp. -/
abbrev Word := BitVec 32

/-- Six like things, numbered 0 to 5: zones and dampers (00_scope 4.5). -/
structure Six (α : Type) where
  z0 : α
  z1 : α
  z2 : α
  z3 : α
  z4 : α
  z5 : α
deriving DecidableEq, Repr

namespace Six

/-- Thing number `i`. -/
def get {α : Type} (v : Six α) : Fin 6 → α
  | 0 => v.z0
  | 1 => v.z1
  | 2 => v.z2
  | 3 => v.z3
  | 4 => v.z4
  | 5 => v.z5

/-- Replace thing number `i`. -/
def set {α : Type} (v : Six α) (i : Fin 6) (x : α) : Six α :=
  match i with
  | 0 => { v with z0 := x }
  | 1 => { v with z1 := x }
  | 2 => { v with z2 := x }
  | 3 => { v with z3 := x }
  | 4 => { v with z4 := x }
  | 5 => { v with z5 := x }

/-- The same thing six times. -/
def all {α : Type} (x : α) : Six α := ⟨x, x, x, x, x, x⟩

/-- Six things given by their numbers. -/
def tabulate {α : Type} (f : Fin 6 → α) : Six α := ⟨f 0, f 1, f 2, f 3, f 4, f 5⟩

/-- Change every thing. -/
def map {α β : Type} (f : α → β) (v : Six α) : Six β := ⟨f v.z0, f v.z1, f v.z2, f v.z3, f v.z4, f v.z5⟩

/-- The six things in order. -/
def toList {α : Type} (v : Six α) : List α := [v.z0, v.z1, v.z2, v.z3, v.z4, v.z5]

/-- The numbers 0 to 5 in order. -/
def numbers : List (Fin 6) := [0, 1, 2, 3, 4, 5]

end Six

/-- Four like things, numbered 0 to 3: ramp profiles and filter classes (00_scope 4.5). -/
structure Quad (α : Type) where
  q0 : α
  q1 : α
  q2 : α
  q3 : α
deriving DecidableEq, Repr

namespace Quad

/-- Thing number `i`. -/
def get {α : Type} (v : Quad α) : Fin 4 → α
  | 0 => v.q0
  | 1 => v.q1
  | 2 => v.q2
  | 3 => v.q3

/-- Replace thing number `i`. -/
def set {α : Type} (v : Quad α) (i : Fin 4) (x : α) : Quad α :=
  match i with
  | 0 => { v with q0 := x }
  | 1 => { v with q1 := x }
  | 2 => { v with q2 := x }
  | 3 => { v with q3 := x }

/-- The same thing four times. -/
def all {α : Type} (x : α) : Quad α := ⟨x, x, x, x⟩

/-- The four things in order. -/
def toList {α : Type} (v : Quad α) : List α := [v.q0, v.q1, v.q2, v.q3]

end Quad

end Sys2Proof
end

