-- ==== Sys2Proof/Syntax.lean ====
section
/-! DEFINITION. The commands of the AP620: one constructor for each row of spec/opcode_table.json. An event the part
itself or its pins produce carries what the event brings (an octet, a switch level, the number of a zone). A Request
carries its tag and the fields of Table 11-5 at the width they have on the panel link, so that a field out of range is
an operand like any other and is answered as its rule says. -/
namespace Sys2Proof

/-- The four condensate tank switches (R136). -/
inductive TankSwitch where
  | present | low | high | full
deriving DecidableEq, Repr

/-- The fields of Load Unit Settings in the order of Table 9-2, at their widths in Table 11-5. -/
structure SettingsFields where
  nodeAddress : Byte
  relayEnable : Byte
  polarity : Byte
  runProfile : Byte
  quietProfile : Byte
  runCap : Half
  quietCap : Half
  idleDuty : Half
  coilMinimum : Half
  fixedShare : Half
  holdTime : Half
  callOn : Half
  callOff : Half
  wakeThreshold : Half
  autoWake : Byte
  pumpFitted : Byte
  edges : Byte
  pulses : Byte
deriving DecidableEq, Repr

/-- The eight fields of a filter class in the order of Load Filter Class (Table 11-5). -/
structure ClassFields where
  capacity : Half
  efficiency : Half
  clean : Half
  worn : Half
  absent : Half
  slope : Byte
  reference : Half
  due : Half
deriving DecidableEq, Repr

/-- The seven fields of an Inject Sample after its address (Table 11-5). -/
structure SampleFields where
  temperature : Half
  rh : Half
  pm25 : Half
  pm10 : Half
  pressure : Half
  coil : Half
  status : Byte
deriving DecidableEq, Repr

/-- The commands. -/
inductive Instr where
  -- resets
  | powerOn
  | restart (tag : Byte)
  | restartTakesEffect
  -- zone line events
  | cycleStart
  | pollSent
  | zoneLineOctet (octet : Byte)
  | answerWindowExpiry
  | frameTimerExpiry
  | answerGapEnd
  | nodeMessageStart
  | nodeMessageEnd
  | messageWaitEnd
  -- zones
  | holdExpiry (zone : Fin 6)
  -- blower
  | rampTick
  | tachEdge (instant : Nat)
  | noCaptureExpiry
  | stallTimerExpiry
  | retryTimerExpiry
  | healthyRunExpiry
  | runHoursSecond
  -- dampers; `home` is the level of the home switch at the step
  | moveStep (damper : Fin 6) (home : Bool)
  | homingStep (damper : Fin 6) (home : Bool)
  | seekStep (damper : Fin 6) (home : Bool)
  -- drying sequencer
  | offTimerExpiry
  | onTimerExpiry
  | airflowWaitExpiry
  | airflowGraceExpiry
  | frostDwellExpiry
  | defrostMaxExpiry
  -- tank and pump
  | tankSwitchChange (switch : TankSwitch) (closed : Bool)
  | stabilityTimerExpiry (switch : TankSwitch)
  | rearmExpiry
  | maxRunExpiry
  | restExpiry
  -- store
  | nvsWordDone
  -- panel link
  | panelOctet (octet : Byte)
  | panelGapTimeout
  | upwardFrameEnd
  | noticeForm
  | unknownRequest (tag : Byte) (payload : List Byte)
  -- Requests
  | setMode (tag mode : Byte) (source : Option Byte)
  | setZoneTargets (tag zone : Byte) (pmTarget rhTarget : Half)
  | loadZoneEntry (tag zone enabled address : Byte) (pmTarget : Half) (gain : Byte) (rhTarget : Half) (drying : Byte)
  | loadPollList (tag count : Byte) (entries : List (Byte × Byte))
  | loadFanCurve (tag : Byte) (points : List Half)
  | loadRampProfile (tag profile count : Byte) (bands : List (Half × Byte × Byte))
  | loadFilterClass (tag number : Byte) (fields : ClassFields)
  | loadDamperEntry (tag damper fitted : Byte) (travel bleed rest : Half)
  | loadUnitSettings (tag : Byte) (fields : SettingsFields)
  | readTable (tag selector index : Byte)
  | readStatus (tag page : Byte)
  | readNode (tag address : Byte)
  | readZone (tag zone : Byte)
  | readStage (tag stage : Byte)
  | readFinishCauses (tag : Byte)
  | readCounters (tag : Byte)
  | filterReplaced (tag stage number : Byte) (stamp : Word)
  | forwardToNode (tag address length : Byte) (data : List Byte)
  | setNoticeMask (tag : Byte) (mask : BitVec 24)
  | clearNotices (tag : Byte) (kinds : BitVec 24)
  | clearLockout (tag : Byte)
  | clearPumpFault (tag : Byte)
  | serviceBlowerDemand (tag : Byte) (demand : Half)
  | serviceDamperTargets (tag : Byte) (targets : List (Byte × Half))
  | servicePumpOn (tag : Byte)
  | servicePumpOff (tag : Byte)
  | serviceCompressorOn (tag : Byte)
  | serviceCompressorOff (tag : Byte)
  | injectSample (tag address : Byte) (fields : SampleFields)
  | storeRead (tag : Byte) (address : Half) (count : Byte)
  | storeWrite (tag : Byte) (address : Half) (data : Word)
  | zoneLineReset (tag : Byte)
deriving DecidableEq, Repr

end Sys2Proof
end

