-- ==== Sys2Proof/Config.lean ====
section
/-! DEFINITION. The free values: what the manual leaves open and the machine goes on. Each is a constant without a
body, so that no proof can see it, applied to a count of the free values drawn so far (`State.freeUsed`). -/
namespace Sys2Proof

/-- FREE VALUE (log 13). Octet `k` of a reply field that is absent and for which Table 11-5 gives no code (an absent
last accept time, hold expiry or airflow record), at draw number `n`. -/
opaque Config.freeOctet (n k : Nat) : Byte

/-- FREE VALUE (log 14). Whether a time left that is not a whole number of seconds is returned rounded up on Read
Status page 4 (Table 11-6 says so for the off timer of page 1 and is silent on page 4), at draw number `n`. -/
opaque Config.roundsUp (n : Nat) : Bool

/-- FREE VALUE (log 3). Where the `k`-th of several events that fall due at the same millisecond stands among those
placed before it, at draw number `n`: the manual says of such events that either may be taken first. -/
opaque Config.tieBreak (n k : Nat) : Nat

end Sys2Proof
end

