-- ==== Sys2Proof/Machine/Octets.lean ====
section
/-! DEFINITION. Octets and the fields made of them: high octet first (00_scope 4.6), the check of R2, and the two zone
line frames the part sends (Table 11-9). -/
namespace Sys2Proof.Machine

/-- High octet of a 16-bit field. -/
def hi (x : Half) : Byte := x.extractLsb' 8 8

/-- Low octet of a 16-bit field. -/
def lo (x : Half) : Byte := x.extractLsb' 0 8

/-- A 16-bit field from its two octets, high octet first (00_scope 4.6). -/
def half (h l : Byte) : Half := h ++ l

/-- The two octets of a 16-bit field, high octet first (00_scope 4.6). -/
def octets16 (x : Half) : List Byte := [hi x, lo x]

/-- The four octets of a 32-bit field, high octet first (00_scope 4.6). -/
def octets32 (x : Word) : List Byte :=
  [x.extractLsb' 24 8, x.extractLsb' 16 8, x.extractLsb' 8 8, x.extractLsb' 0 8]

/-- A 32-bit field from its four octets, high octet first (00_scope 4.6). -/
def word (a b c d : Byte) : Word := (a ++ b) ++ (c ++ d)

/-- The three octets of a 24-bit field, high octet first. -/
def octets24 (x : BitVec 24) : List Byte := [x.extractLsb' 16 8, x.extractLsb' 8 8, x.extractLsb' 0 8]

/-- A 24-bit field from its three octets, high octet first. -/
def triple (a b c : Byte) : BitVec 24 := (a ++ b) ++ c

/-- One number as one octet. -/
def octet (n : Nat) : Byte := BitVec.ofNat 8 n

/-- One number as two octets. -/
def nat16 (n : Nat) : List Byte := octets16 (BitVec.ofNat 16 n)

/-- One number as four octets. -/
def nat32 (n : Nat) : List Byte := octets32 (BitVec.ofNat 32 n)

/-- A signed number as two octets, two's complement (00_scope 4.1). -/
def int16 (x : Int) : List Byte := octets16 (BitVec.ofInt 16 x)

/-- One data bit taken into the check register (R2 step 3). -/
def checkBit (r : Half) (b : Bool) : Half :=
  if r.msb != b then (r <<< 1) ^^^ 0x1021#16 else r <<< 1

/-- One octet taken into the check register, most significant bit first (R2 step 2). -/
def checkOctet (r : Half) (o : Byte) : Half :=
  [7, 6, 5, 4, 3, 2, 1, 0].foldl (fun a k => checkBit a (o.getLsbD k)) r

/-- The check of R2 over a list of octets. -/
def checkOf (octets : List Byte) : Half := octets.foldl checkOctet 0xFFFF#16

/-- A frame body followed by its check, high octet first (R2). -/
def withCheck (body : List Byte) : List Byte := body ++ octets16 (checkOf body)

/-- Whether a received frame's last two octets are the check of the octets before them (R2). -/
def checkHolds (frame : List Byte) : Bool :=
  frame.drop (frame.length - 2) == octets16 (checkOf (frame.take (frame.length - 2)))

/-- A Poll (Table 11-9). -/
def pollFrame (address : Nat) : List Byte := withCheck [0x70#8, octet address]

/-- A Node Message (Table 11-9, R20). -/
def messageFrame (address : Byte) (data : List Byte) : List Byte :=
  withCheck ([0x74#8, address, octet data.length] ++ data)

end Sys2Proof.Machine
end

