-- ==== Sys2Proof/Machine/Times.lean ====
section
/-! DEFINITION. The lengths of the manual's timers and intervals, in milliseconds, each with its rule, and the time a
frame takes on the two serial lines. -/
namespace Sys2Proof.Machine

/-- The answer window (R8). -/
abbrev answerWindow : Nat := 15
/-- The frame timer, from the lead (R8). -/
abbrev frameTimer : Nat := 12
/-- The gap after an answer period (R7). -/
abbrev answerGap : Nat := 5
/-- The wait after a Node Message (R21). -/
abbrev messageWait : Nat := 5
/-- The ramp tick (R47). -/
abbrev rampPeriod : Nat := 100
/-- The no-capture timer (R54). -/
abbrev noCaptureTime : Nat := 1000
/-- The stall timer (R56). -/
abbrev stallTime : Nat := 1000
/-- The retry timer (R58). -/
abbrev retryTime : Nat := 5000
/-- The healthy-run timer (R61). -/
abbrev healthyTime : Nat := 60000
/-- One step of a move (R70). -/
abbrev moveInterval : Nat := 5
/-- One step of a homing or of a seek (R70). -/
abbrev homingInterval : Nat := 10
/-- The off timer (Table 7-2). -/
abbrev offTime : Nat := 180000
/-- The on timer (Table 7-2). -/
abbrev onTime : Nat := 120000
/-- The airflow wait (Table 7-2). -/
abbrev airflowWaitTime : Nat := 30000
/-- The airflow grace (Table 7-2). -/
abbrev graceTime : Nat := 10000
/-- The frost dwell (Table 7-2). -/
abbrev frostTime : Nat := 60000
/-- The defrost max (Table 7-2). -/
abbrev defrostTime : Nat := 600000
/-- The stability timer of a tank switch (R136). -/
abbrev stabilityTime : Nat := 2000
/-- The re-arm timer (R138). -/
abbrev rearmTime : Nat := 30000
/-- The maximum run of the pump (R141). -/
abbrev maxRunTime : Nat := 90000
/-- The rest of the pump (R143). -/
abbrev restTime : Nat := 10000
/-- The write of one store word (R161). -/
abbrev wordTime : Nat := 4
/-- The first whole millisecond at which more than 10 ms have passed since an octet of a panel frame (R166, log 20). -/
abbrev panelGap : Nat := 11

/-- Time on the zone line of `n` octets of 260.4 µs each (section 1.1), rounded up to whole milliseconds (log 4). -/
def zoneLineTime (n : Nat) : Nat := (n * 2604 + 9999) / 10000

/-- Time on the panel link of `n` octets of 86.8 µs each (section 11.1), rounded up to whole milliseconds (log 4). -/
def panelLinkTime (n : Nat) : Nat := (n * 868 + 9999) / 10000

end Sys2Proof.Machine
end

