-- ==== Sys2Proof/Machine/State.lean ====
section
/-! DEFINITION. The state of the AP620: the eleven blocks of 00_scope Table 0-1, each a structure of plain data, the
commands that wait, and the reset values. A timer is the number of milliseconds it has left, absent while it does not
run. A field that names a number of the manual (a duty, a dose, a count with a bound) is a Nat or an Int; a field the
manual lets wrap, or carries as octets, is a bit vector. -/
namespace Sys2Proof.Machine

/-! ### Names -/

/-- The unit modes (00_scope 4.5, R149). -/
inductive UnitMode where
  | off | run | quiet | standby | service
deriving DecidableEq, Repr

/-- The service source (R149). -/
inductive ServiceSource where
  | line | inject
deriving DecidableEq, Repr

/-- The polarity setting (Table 9-2). -/
inductive PolaritySetting where
  | auto | normal | inverted
deriving DecidableEq, Repr

/-- The current polarity (R15). -/
inductive Polarity where
  | normal | inverted
deriving DecidableEq, Repr

/-- The expected form of a node's readings (Table 1-1). -/
inductive NodeForm where
  | short | long | either
deriving DecidableEq, Repr

/-- The state of a node record (Table 1-4). -/
inductive NodeState where
  | unknown | live | missing | lost
deriving DecidableEq, Repr

/-- The sample state of a zone (Table 2-3). -/
inductive SampleState where
  | noNode | fresh | held | stale
deriving DecidableEq, Repr

/-- The blower states (Table 3-2). -/
inductive BlowerState where
  | stopped | running | retryWait | fault
deriving DecidableEq, Repr

/-- The blower finish causes (R62). -/
inductive BlowerFinish where
  | none | demand | mode | stall | service | fault
deriving DecidableEq, Repr

/-- The damper states (Table 4-3). -/
inductive DamperState where
  | unfitted | unhomed | homing | settled | moving | waiting | faulted
deriving DecidableEq, Repr

/-- The damper finish causes (Table 4-5). -/
inductive DamperFinish where
  | none | arrived | retargeted | slip | homeNotFound | homeLost | mode
deriving DecidableEq, Repr

/-- The filter stage states (Table 6-3). -/
inductive StageState where
  | fresh | due | worn | missing
deriving DecidableEq, Repr

/-- The sequencer states (Table 7-1). -/
inductive DsState where
  | idle | readyWait | airflowWait | running | defrost | tankHold | lockout
deriving DecidableEq, Repr

/-- The compressor finish causes (R134). -/
inductive CompressorFinish where
  | none | satisfied | tankFull | frost | airflowLow | sensorLost | mode | blowerFault | service
deriving DecidableEq, Repr

/-- The tank levels (Table 8-1). -/
inductive TankLevel where
  | unsettled | absent | empty | normal | high | full | fault
deriving DecidableEq, Repr

/-- The block origin (R138). -/
inductive BlockOrigin where
  | startUp | level
deriving DecidableEq, Repr

/-- The pump states (Table 8-3). -/
inductive PumpState where
  | off | running | rest | fault
deriving DecidableEq, Repr

/-- The pump finish causes (R147). -/
inductive PumpFinish where
  | none | emptied | timeout | tankRemoved | switchFault | mode | service
deriving DecidableEq, Repr

/-- The notice kinds (Table 11-8). -/
inductive NoticeKind where
  | nodeLost | nodeBack | polarityChanged | tankFull | tankFault | tankCleared | pumpFault | filterDue | filterWorn
  | filterMissing | filterRecordLost | damperFault | damperSlip | blowerStall | blowerFault | defrostStart
  | compressorLockout | modeChanged
deriving DecidableEq, Repr

/-- The Reply status codes (Table 11-1). -/
inductive Status where
  | done | clamped | busy | badTable | badIndex | badLength | badMode | badAddress | full | unknown
deriving DecidableEq, Repr

/-! ### Intake Unit -/

/-- The fields of a reading as a node record holds them, each absent or present (Table 1-1). -/
structure Reading where
  temperature : Option Int
  rh : Option Nat
  pm25 : Option Nat
  pm10 : Option Nat
  pressure : Option Nat
  coil : Option Int
  status : Option Byte
deriving DecidableEq, Repr

/-- Every reading field absent (Table 1-1). -/
def Reading.allAbsent : Reading := ⟨none, none, none, none, none, none, none⟩

/-- A node record (Table 1-1). -/
structure NodeRecord where
  address : Nat
  form : NodeForm
  state : NodeState
  misses : Nat
  lastSequence : Option Byte
  last : Reading
  lastAccept : Option Word
  accepted : Word
deriving DecidableEq, Repr

/-- A node record right after its creation (Table 1-1). -/
def NodeRecord.fresh (address : Nat) (form : NodeForm) : NodeRecord :=
  ⟨address, form, .unknown, 0, none, Reading.allAbsent, none, 0#32⟩

/-- One entry of the poll list (R3). -/
structure PollEntry where
  address : Nat
  form : NodeForm
deriving DecidableEq, Repr

/-- The seven intake counters (Table 1-5). -/
structure IntakeCounters where
  accepted : Half
  checkFail : Half
  timeout : Half
  stray : Half
  duplicate : Half
  formMismatch : Half
  polarityFlips : Half
deriving DecidableEq, Repr

/-- All seven counters 0 (R25). -/
def IntakeCounters.zero : IntakeCounters := ⟨0#16, 0#16, 0#16, 0#16, 0#16, 0#16, 0#16⟩

/-- What the receiver of an answer period does (R8): it hunts for a lead, or it assembles a frame of which it holds
the stamp and the octets so far, the lead first. -/
inductive Hunt where
  | hunting
  | assembling (stamp : Word) (octets : List Byte)
deriving DecidableEq, Repr

/-- An open answer period (R8): the receiver, the mark of having received octets, the answer window and the frame
timer. -/
structure AnswerPeriod where
  hunt : Hunt
  heard : Bool
  windowLeft : Option Nat
  frameLeft : Option Nat
deriving DecidableEq, Repr

/-- What the zone line is doing (sections 1.3 and 1.9). `entry` is the place in the poll list. -/
inductive LinePhase where
  | idle
  | poll (entry : Nat) (left : Nat)
  | answer (entry : Nat) (period : AnswerPeriod)
  | gap (entry : Nat) (left : Nat)
  | message (left : Nat)
  | messageWait (left : Nat)
deriving DecidableEq, Repr

/-- A Node Message in the down queue (R20). -/
structure NodeMessage where
  address : Byte
  data : List Byte
deriving DecidableEq, Repr

/-- The Intake Unit (Chapter 1). `sending` is the whole Poll or Node Message in transmission, its octets before the
correction of R1; `onWire` are those of its octets that have begun, as they left the pin (R16). -/
structure Intake where
  pollList : List PollEntry
  nodes : List NodeRecord
  polarity : Polarity
  badWindows : Nat
  timeBase : Word
  live : IntakeCounters
  snapshot : IntakeCounters
  cycleNumber : Half
  down : List NodeMessage
  phase : LinePhase
  sending : List Byte
  onWire : List Byte
  lastStart : Option Word
  nextStart : Option Word
  startDue : Bool
deriving DecidableEq, Repr

/-- The Intake Unit after either reset (R25): the first cycle has started at time base 0 with the Poll of its one
entry, and the next start time is 10,000 ms, the interval of Off. -/
def Intake.reset : Intake where
  pollList := [⟨1, .either⟩]
  nodes := [NodeRecord.fresh 1 .either]
  polarity := .normal
  badWindows := 0
  timeBase := 0#32
  live := IntakeCounters.zero
  snapshot := IntakeCounters.zero
  cycleNumber := 0#16
  down := []
  phase := .poll 0 (zoneLineTime 4)
  sending := pollFrame 1
  onWire := [0x70#8]
  lastStart := some 0#32
  nextStart := some 10000#32
  startDue := false

/-! ### Zone Table and Demand Unit -/

/-- A zone table entry (Table 2-1). -/
structure ZoneEntry where
  enabled : Bool
  node : Nat
  pmTarget : Nat
  gain : Nat
  rhTarget : Nat
  drying : Bool
deriving DecidableEq, Repr

/-- A zone: its table entry, its runtime record (Table 2-2), and its opening and target in steps as computed at the
latest demand update (R28, R40). -/
structure Zone where
  entry : ZoneEntry
  sample : SampleState
  pm25 : Option Nat
  rh : Option Nat
  temperature : Option Int
  lastAccept : Option Word
  holdExpiry : Option Word
  dPm : Nat
  err : Option Int
  dRh : Nat
  d : Nat
  opening : Nat
  target : Option Nat
deriving DecidableEq, Repr

/-- A zone after either reset (R44; opening and target: log 21). -/
def Zone.reset : Zone where
  entry := ⟨false, 0, 12, 16, 500, false⟩
  sample := .noNode
  pm25 := none
  rh := none
  temperature := none
  lastAccept := none
  holdExpiry := none
  dPm := 0
  err := none
  dRh := 0
  d := 0
  opening := 0
  target := none

/-- The Zone Table and Demand Unit (Chapter 2). -/
structure Demand where
  zones : Six Zone
  largest : Nat
  call : Bool
  dryingActive : Bool
  filterMissing : Bool
  demandedDuty : Nat
deriving DecidableEq, Repr

/-- The demand unit after either reset (R44). -/
def Demand.reset : Demand := ⟨Six.all Zone.reset, 0, false, false, false, 0⟩

/-! ### Blower Drive -/

/-- One band of a ramp profile (section 3.3). -/
structure Band where
  ceiling : Nat
  rise : Nat
  fall : Nat
deriving DecidableEq, Repr

/-- The capture chain (R53): whether it has a reference, the edges since the last capture, and the time of the last
capture in µs. -/
structure CaptureChain where
  reference : Bool
  edges : Nat
  lastCapture : Nat
deriving DecidableEq, Repr

/-- The Blower Drive (Chapter 3). -/
structure Blower where
  applied : Nat
  staged : Nat
  profiles : Quad (List Band)
  allowance : Nat
  chain : CaptureChain
  speed : Nat
  state : BlowerState
  retryCount : Nat
  rampLeft : Nat
  noCaptureLeft : Option Nat
  stallLeft : Option Nat
  retryLeft : Option Nat
  healthyLeft : Option Nat
  finish : BlowerFinish
  cuts : Half
  runFraction : Nat
  runSeconds : Nat
deriving DecidableEq, Repr

/-- Profile 0 of Table 3-1, which profiles 2 and 3 repeat. -/
def defaultProfile : List Band := [⟨300, 20, 30⟩, ⟨700, 10, 20⟩, ⟨1000, 5, 15⟩]

/-- Profile 1 of Table 3-1. -/
def defaultQuietProfile : List Band := [⟨450, 8, 15⟩, ⟨1000, 4, 10⟩]

/-- The Blower Drive after a reset, with the run-hour count the reset leaves it (R65, R66). -/
def Blower.reset (runSeconds : Nat) : Blower where
  applied := 0
  staged := 0
  profiles := ⟨defaultProfile, defaultQuietProfile, defaultProfile, defaultProfile⟩
  allowance := 0
  chain := ⟨false, 0, 0⟩
  speed := 0
  state := .stopped
  retryCount := 0
  rampLeft := rampPeriod
  noCaptureLeft := none
  stallLeft := none
  retryLeft := none
  healthyLeft := none
  finish := .none
  cuts := 0#16
  runFraction := 0
  runSeconds := runSeconds

/-! ### Damper Positioner -/

/-- A damper table entry (Table 4-1). -/
structure DamperEntry where
  fitted : Bool
  travel : Nat
  bleed : Nat
  rest : Nat
deriving DecidableEq, Repr

/-- A damper: its table entry, its running record (Table 4-2), whether its move is seeking the switch at position 0
(R81), the time to its next step pulse (R70), and its two pins. -/
structure Damper where
  entry : DamperEntry
  state : DamperState
  position : Option Nat
  target : Option Nat
  share : Nat
  pending : Nat
  covered : Option Nat
  homingCount : Nat
  confirmCount : Nat
  finish : DamperFinish
  seeking : Bool
  stepLeft : Option Nat
  homeSwitch : Bool
  towardOpen : Bool
deriving DecidableEq, Repr

/-- A damper after either reset (R87, R88), with the level its home switch pin then has (log 9). -/
def Damper.reset (homeSwitch : Bool) : Damper where
  entry := ⟨false, 1000, 0, 0⟩
  state := .unfitted
  position := none
  target := none
  share := 0
  pending := 0
  covered := none
  homingCount := 0
  confirmCount := 0
  finish := .none
  seeking := false
  stepLeft := none
  homeSwitch := homeSwitch
  towardOpen := false

/-- The Damper Positioner (Chapter 4). -/
structure Positioner where
  dampers : Six Damper
deriving DecidableEq, Repr

/-! ### Dose Unit -/

/-- The latest airflow record (R102). -/
structure AirflowRecord where
  stamp : Word
  speed : Nat
  free : Nat
  restriction : Nat
  airflow : Nat
  interval : Nat
  clamped : Bool
deriving DecidableEq, Repr

/-- The Dose Unit (Chapter 5). -/
structure Dose where
  curve : List Nat
  factoryCurve : List Nat
  previousStamp : Option Word
  gaps : Half
  airflow : Option AirflowRecord
deriving DecidableEq, Repr

/-- The built-in fan curve, F[j] = 75 × j (R93). -/
def builtInCurve : List Nat :=
  [0, 75, 150, 225, 300, 375, 450, 525, 600, 675, 750, 825, 900, 975, 1050, 1125, 1200]

/-- The Dose Unit after either reset (R102), with the curve that reset gives it as working curve and as factory copy
(R93). -/
def Dose.reset (curve : List Nat) : Dose := ⟨curve, curve, none, 0#16, none⟩

/-! ### Filter Stage records -/

/-- A filter class (Table 6-1). -/
structure FilterClass where
  capacity : Nat
  efficiency : Nat
  clean : Nat
  worn : Nat
  absent : Nat
  slope : Nat
  reference : Nat
  due : Nat
deriving DecidableEq, Repr

/-- The built-in class (R104). -/
def builtInClass : FilterClass := ⟨24000, 970, 90, 250, 30, 24, 1800, 850⟩

/-- A stage record (Table 6-2). -/
structure StageRecord where
  number : Fin 4
  dose : Nat
  remainder : Nat
  held : Nat
  life : Nat
  state : StageState
  restored : Bool
  checkpointLife : Nat
  stamp : Word
  unsaved : Bool
  absentCount : Nat
  presentCount : Nat
deriving DecidableEq, Repr

/-- A stage account started from nothing (R115). -/
def StageRecord.fromNothing : StageRecord := ⟨0, 0, 0, 0, 0, .fresh, false, 0, 0#32, true, 0, 0⟩

/-- The Filter Stage records (Chapter 6): stage 1 is `pre`, stage 2 is `fine`. -/
structure Filters where
  classes : Quad FilterClass
  factoryClasses : Quad FilterClass
  pre : StageRecord
  fine : StageRecord
deriving DecidableEq, Repr

/-! ### Drying Sequencer -/

/-- The Drying Sequencer (Chapter 7): its state, output, timers and finish cause, and its inputs of Table 7-3. -/
structure Sequencer where
  state : DsState
  compressor : Bool
  service : Bool
  offLeft : Option Nat
  onLeft : Option Nat
  airflowWaitLeft : Option Nat
  graceLeft : Option Nat
  frostLeft : Option Nat
  defrostLeft : Option Nat
  timeouts : Nat
  finish : CompressorFinish
  call : Bool
  tankBlocked : Bool
  faulted : Bool
  applied : Nat
  coil : Option Int
  nodeLost : Bool
  mode : UnitMode
deriving DecidableEq, Repr

/-- The Drying Sequencer after either reset (R135). -/
def Sequencer.reset : Sequencer where
  state := .idle
  compressor := false
  service := false
  offLeft := some offTime
  onLeft := none
  airflowWaitLeft := none
  graceLeft := none
  frostLeft := none
  defrostLeft := none
  timeouts := 0
  finish := .none
  call := false
  tankBlocked := true
  faulted := false
  applied := 0
  coil := none
  nodeLost := false
  mode := .off

/-! ### Tank Monitor -/

/-- One tank switch (R136): raw input (true is closed), debounced state (absent is unsettled), stability timer. -/
structure SwitchState where
  raw : Bool
  debounced : Option Bool
  stabilityLeft : Option Nat
deriving DecidableEq, Repr

/-- The Tank Monitor (Chapter 8). -/
structure Tank where
  present : SwitchState
  low : SwitchState
  high : SwitchState
  full : SwitchState
  level : TankLevel
  blocked : Bool
  origin : BlockOrigin
  rearmLeft : Option Nat
  pump : PumpState
  maxRunLeft : Option Nat
  restLeft : Option Nat
  timeouts : Nat
  serviceRun : Bool
  finish : PumpFinish
deriving DecidableEq, Repr

/-- A tank switch after either reset, its raw input being what the pin then shows (R148). -/
def SwitchState.reset (raw : Bool) : SwitchState := ⟨raw, none, some stabilityTime⟩

/-- The Tank Monitor after either reset, with the raw inputs the pins then show (R148). -/
def Tank.reset (present low high full : Bool) : Tank where
  present := SwitchState.reset present
  low := SwitchState.reset low
  high := SwitchState.reset high
  full := SwitchState.reset full
  level := .unsettled
  blocked := true
  origin := .startUp
  rearmLeft := none
  pump := .off
  maxRunLeft := none
  restLeft := none
  timeouts := 0
  serviceRun := false
  finish := .none

/-! ### Mode Control -/

/-- The unit settings record (Table 9-2). -/
structure Settings where
  nodeAddress : Nat
  relayEnable : Bool
  polarity : PolaritySetting
  runProfile : Fin 4
  quietProfile : Fin 4
  runCap : Nat
  quietCap : Nat
  idleDuty : Nat
  coilMinimum : Nat
  fixedShare : Nat
  holdTime : Nat
  callOn : Int
  callOff : Int
  wakeThreshold : Nat
  autoWake : Bool
  pumpFitted : Bool
  edges : Nat
  pulses : Nat
deriving DecidableEq, Repr

/-- The defaults of Table 9-2. -/
def Settings.defaults : Settings :=
  ⟨1, true, .auto, 0, 1, 1000, 450, 150, 350, 0, 60, 30, -10, 300, true, false, 2, 2⟩

/-- The service record (R155). -/
structure ServiceRecord where
  blower : Option Nat
  pump : Option Bool
  compressor : Option Bool
deriving DecidableEq, Repr

/-- Mode Control (Chapter 9). -/
structure ModeControl where
  mode : UnitMode
  source : ServiceSource
  record : ServiceRecord
  largest : Nat
  settings : Settings
deriving DecidableEq, Repr

/-- Mode Control after either reset (R149, R156). -/
def ModeControl.reset : ModeControl := ⟨.off, .line, ⟨none, none, none⟩, 0, Settings.defaults⟩

/-! ### Nonvolatile Store -/

/-- The target of a write: a service slot or the address of a panel word (R162). -/
inductive StoreTarget where
  | f1 | f2 | bh
  | panel (address : Nat)
deriving DecidableEq, Repr

/-- An item of the write queue (R161): its target and its octets, filled up to whole words. -/
structure StoreItem where
  target : StoreTarget
  octets : List Byte
deriving DecidableEq, Repr

/-- The write in progress (R161): the item, the number of its words not yet written, and the time left of the word
being written, which is the highest of them. -/
structure StoreWriting where
  item : StoreItem
  wordsLeft : Nat
  left : Nat
deriving DecidableEq, Repr

/-- The Nonvolatile Store (Chapter 10): the octets other than FFh, the write queue and the write in progress. -/
structure Store where
  cells : List Host.Cell
  queue : List StoreItem
  current : Option StoreWriting
deriving DecidableEq, Repr

/-! ### Panel Link -/

/-- The receiver of the panel link (R166). -/
inductive Receiver where
  | hunting
  | assembling (octets : List Byte) (gapLeft : Nat)
deriving DecidableEq, Repr

/-- A Request in the request queue (R167). -/
structure Request where
  tag : Byte
  payload : List Byte
deriving DecidableEq, Repr

/-- The kinds of upward frame (Table 11-4). -/
inductive FrameKind where
  | reply | relay | notice
deriving DecidableEq, Repr

/-- A frame of the upward queue (R171). -/
structure Frame where
  kind : FrameKind
  tag : Byte
  payload : List Byte
deriving DecidableEq, Repr

/-- The frame in transmission and the time it has left (R171). -/
structure Sending where
  frame : Frame
  left : Nat
deriving DecidableEq, Repr

/-- An entry of the pending notice set (R172). -/
structure PendingNotice where
  kind : NoticeKind
  subject : Option Byte
deriving DecidableEq, Repr

/-- The Panel Link (Chapter 11). -/
structure Panel where
  receiver : Receiver
  requests : List Request
  upward : List Frame
  sending : Option Sending
  pending : List PendingNotice
  mask : BitVec 24
  errorStatus : Status
  errorRequest : Byte
  overrun : Bool
  upNumber : Byte
  checkFail : Half
  kindFail : Half
  requestsDropped : Half
  relaysDropped : Half
  restartPending : Bool
deriving DecidableEq, Repr

/-- The Panel Link after either reset (R176). -/
def Panel.reset : Panel where
  receiver := .hunting
  requests := []
  upward := []
  sending := none
  pending := []
  mask := 0#24
  errorStatus := .done
  errorRequest := 0#8
  overrun := false
  upNumber := 0#8
  checkFail := 0#16
  kindFail := 0#16
  requestsDropped := 0#16
  relaysDropped := 0#16
  restartPending := false

/-! ### The machine -/

/-- The AP620. `freeUsed` counts the free values drawn (log 30); `pending` is the queue of waiting commands, first in,
first out. Both are the model's own fields. -/
structure State where
  iu : Intake
  dmu : Demand
  bd : Blower
  dp : Positioner
  du : Dose
  fs : Filters
  ds : Sequencer
  tm : Tank
  mc : ModeControl
  nvs : Store
  pl : Panel
  freeUsed : Nat
  pending : List Instr
deriving DecidableEq, Repr

/-- The reasons the machine could stop with a fault. There is none: every rule of the manual ends in a state, and
what goes wrong is a status, a counter, a notice or a state of a block. -/
inductive Fault where
deriving DecidableEq, Repr

/-- The reasons a command could be refused. -/
inductive Refusal where
  /-- No meaning for the command. Raised by an arm of `exec` that has none; safe. No arm raises it. -/
  | notModelled (mnemonic : String)
deriving DecidableEq, Repr

/-- The machine right after power-on with a store that was never written (log 11), all input pins open (log 9, 10) and
no command waiting. Both stage records are then lost (R115): the notice for stage 1 is in transmission and the one for
stage 2 waits in the upward queue (R172, R176). -/
def State.reset : State where
  iu := Intake.reset
  dmu := Demand.reset
  bd := Blower.reset 0
  dp := ⟨Six.all (Damper.reset false)⟩
  du := Dose.reset builtInCurve
  fs := ⟨Quad.all builtInClass, Quad.all builtInClass, StageRecord.fromNothing, StageRecord.fromNothing⟩
  ds := Sequencer.reset
  tm := Tank.reset false false false false
  mc := ModeControl.reset
  nvs := ⟨[], [], none⟩
  pl := { Panel.reset with
    upNumber := 2#8
    sending := some ⟨⟨.notice, 0#8, [10#8, 1#8]⟩, panelLinkTime 8⟩
    upward := [⟨.notice, 1#8, [10#8, 2#8]⟩] }
  freeUsed := 0
  pending := []

end Sys2Proof.Machine
end

