-- ==== Sys2Proof/Machine/Operands.lean ====
section
/-! DEFINITION. The operand forms: the codes of Table 11-8, the absence conventions of section 11.9, the fields of
readings, and the payload of every Request (Table 11-5). -/
namespace Sys2Proof.Machine

/-! ### Clamping (00_scope 4.1) -/

/-- A number clamped to `a..b`. -/
def clampNat (a b x : Nat) : Nat := max a (min b x)

/-- A signed number clamped to `a..b`. -/
def clampInt (a b x : Int) : Int := max a (min b x)

/-! ### Codes (Table 11-8, Table 11-1) -/

/-- A yes/no, on/off or open/closed octet. -/
def boolCode (b : Bool) : Byte := if b then 1#8 else 0#8

/-- The value of a yes/no octet; none when it is neither (R26, R67, R153). -/
def boolOf (o : Byte) : Option Bool :=
  if o = 0#8 then some false else if o = 1#8 then some true else none

/-- Codes of the unit modes. -/
def modeCode : UnitMode → Byte
  | .off => 0#8 | .run => 1#8 | .quiet => 2#8 | .standby => 3#8 | .service => 4#8

/-- The unit mode a code names. -/
def modeOf (o : Byte) : Option UnitMode :=
  match o.toNat with
  | 0 => some .off | 1 => some .run | 2 => some .quiet | 3 => some .standby | 4 => some .service | _ => none

/-- Codes of the service sources. -/
def sourceCode : ServiceSource → Byte
  | .line => 0#8 | .inject => 1#8

/-- The service source a code names. -/
def sourceOf (o : Byte) : Option ServiceSource :=
  match o.toNat with
  | 0 => some .line | 1 => some .inject | _ => none

/-- Codes of the expected forms. -/
def formCode : NodeForm → Byte
  | .short => 0#8 | .long => 1#8 | .either => 2#8

/-- The expected form a code names. -/
def formOf (o : Byte) : Option NodeForm :=
  match o.toNat with
  | 0 => some .short | 1 => some .long | 2 => some .either | _ => none

/-- Codes of the polarity settings. -/
def polarityCode : PolaritySetting → Byte
  | .auto => 0#8 | .normal => 1#8 | .inverted => 2#8

/-- The polarity setting a code names. -/
def polarityOf (o : Byte) : Option PolaritySetting :=
  match o.toNat with
  | 0 => some .auto | 1 => some .normal | 2 => some .inverted | _ => none

/-- Codes of the node states. -/
def nodeStateCode : NodeState → Byte
  | .unknown => 0#8 | .live => 1#8 | .missing => 2#8 | .lost => 3#8

/-- Codes of the sample states. -/
def sampleCode : SampleState → Byte
  | .noNode => 0#8 | .fresh => 1#8 | .held => 2#8 | .stale => 3#8

/-- Codes of the stage states. -/
def stageStateCode : StageState → Byte
  | .fresh => 0#8 | .due => 1#8 | .worn => 2#8 | .missing => 3#8

/-- Codes of the blower states. -/
def blowerStateCode : BlowerState → Byte
  | .stopped => 0#8 | .running => 1#8 | .retryWait => 2#8 | .fault => 3#8

/-- Codes of the damper states. -/
def damperStateCode : DamperState → Byte
  | .unfitted => 0#8 | .unhomed => 1#8 | .homing => 2#8 | .settled => 3#8 | .moving => 4#8 | .waiting => 5#8
  | .faulted => 6#8

/-- Codes of the sequencer states. -/
def dsStateCode : DsState → Byte
  | .idle => 0#8 | .readyWait => 1#8 | .airflowWait => 2#8 | .running => 3#8 | .defrost => 4#8 | .tankHold => 5#8
  | .lockout => 6#8

/-- Codes of the tank levels. -/
def levelCode : TankLevel → Byte
  | .unsettled => 0#8 | .absent => 1#8 | .empty => 2#8 | .normal => 3#8 | .high => 4#8 | .full => 5#8 | .fault => 6#8

/-- Codes of the pump states. -/
def pumpStateCode : PumpState → Byte
  | .off => 0#8 | .running => 1#8 | .rest => 2#8 | .fault => 3#8

/-- Codes of the blower finish causes. -/
def blowerFinishCode : BlowerFinish → Byte
  | .none => 0#8 | .demand => 1#8 | .mode => 2#8 | .stall => 3#8 | .service => 4#8 | .fault => 5#8

/-- Codes of the damper finish causes. -/
def damperFinishCode : DamperFinish → Byte
  | .none => 0#8 | .arrived => 1#8 | .retargeted => 2#8 | .slip => 3#8 | .homeNotFound => 4#8 | .homeLost => 5#8
  | .mode => 6#8

/-- Codes of the compressor finish causes. -/
def compressorFinishCode : CompressorFinish → Byte
  | .none => 0#8 | .satisfied => 1#8 | .tankFull => 2#8 | .frost => 3#8 | .airflowLow => 4#8 | .sensorLost => 5#8
  | .mode => 6#8 | .blowerFault => 7#8 | .service => 8#8

/-- Codes of the pump finish causes. -/
def pumpFinishCode : PumpFinish → Byte
  | .none => 0#8 | .emptied => 1#8 | .timeout => 2#8 | .tankRemoved => 3#8 | .switchFault => 4#8 | .mode => 5#8
  | .service => 6#8

/-- Codes of the notice kinds; also their bit numbers in the notice mask (R173). -/
def noticeCode : NoticeKind → Nat
  | .nodeLost => 0 | .nodeBack => 1 | .polarityChanged => 2 | .tankFull => 3 | .tankFault => 4 | .tankCleared => 5
  | .pumpFault => 6 | .filterDue => 7 | .filterWorn => 8 | .filterMissing => 9 | .filterRecordLost => 10
  | .damperFault => 11 | .damperSlip => 12 | .blowerStall => 13 | .blowerFault => 14 | .defrostStart => 15
  | .compressorLockout => 16 | .modeChanged => 17

/-- The Reply status codes (Table 11-1). -/
def statusCode : Status → Byte
  | .done => 0#8 | .clamped => 1#8 | .busy => 2#8 | .badTable => 3#8 | .badIndex => 4#8 | .badLength => 5#8
  | .badMode => 6#8 | .badAddress => 7#8 | .full => 8#8 | .unknown => 9#8

/-! ### Absent fields (section 11.9) -/

/-- An absent octet is FFh. -/
def optOctet : Option Byte → Byte
  | some o => o
  | none => 0xFF#8

/-- A number or an absent octet, FFh. -/
def optByte : Option Nat → Byte
  | some n => octet n
  | none => 0xFF#8

/-- An absent 16-bit position, target or service value is FFFFh. -/
def optNat16 : Option Nat → List Byte
  | some n => nat16 n
  | none => [0xFF#8, 0xFF#8]

/-- An absent reading field is 7FFFh. -/
def readingNat16 : Option Nat → List Byte
  | some n => nat16 n
  | none => [0x7F#8, 0xFF#8]

/-- An absent signed reading field is 7FFFh. -/
def readingInt16 : Option Int → List Byte
  | some x => int16 x
  | none => [0x7F#8, 0xFF#8]

/-! ### Fields of a reading (R11) -/

/-- A signed reading field: 7FFFh is absent, any other value is clamped to −400..850 (R11). -/
def temperatureField (x : Half) : Option Int :=
  if x = 0x7FFF#16 then none else some (clampInt (-400) 850 x.toInt)

/-- An unsigned reading field: 7FFFh is absent, any other value above 1000 becomes 1000 (R11). -/
def unsignedField (x : Half) : Option Nat :=
  if x = 0x7FFF#16 then none else some (min 1000 x.toNat)

/-- The fields of a Short or Long reading frame after its sequence octet (Table 11-9), decoded by R11. -/
def readingOfFrame : List Byte → Option Reading
  | [_, _, _, t1, t0, h1, h0, p1, p0, st, _, _] =>
    some ⟨temperatureField (half t1 t0), unsignedField (half h1 h0), unsignedField (half p1 p0), none, none, none, some st⟩
  | [_, _, _, t1, t0, h1, h0, p1, p0, st, c1, c0, d1, d0, e1, e0, _, _, _, _] =>
    some ⟨temperatureField (half t1 t0), unsignedField (half h1 h0), unsignedField (half p1 p0),
      unsignedField (half c1 c0), unsignedField (half d1 d0), temperatureField (half e1 e0), some st⟩
  | _ => none

/-- A reading taken as a Short one: PM10, ΔP and coil temperature absent (Table 1-3). -/
def asShort (r : Reading) : Reading := { r with pm10 := none, pressure := none, coil := none }

/-- The six reading fields as sent to the panel controller (Table 11-5, Table 11-7). -/
def readingOctets (r : Reading) : List Byte :=
  readingInt16 r.temperature ++ readingNat16 r.rh ++ readingNat16 r.pm25 ++ readingNat16 r.pm10
    ++ readingNat16 r.pressure ++ readingInt16 r.coil

/-- The payload of a Relay (Table 11-7). -/
def relayPayload (address : Nat) (stamp : Word) (sequence : Option Byte) (r : Reading) : List Byte :=
  [octet address, optOctet sequence, boolCode sequence.isSome] ++ octets32 stamp ++ readingOctets r ++ [optOctet r.status]

/-! ### Request numbers and fixed lengths (Table 11-2) -/

/-- The requests of Table 11-2. -/
inductive RequestKind where
  | setMode | setZoneTargets | loadZoneEntry | loadPollList | loadFanCurve | loadRampProfile | loadFilterClass
  | loadDamperEntry | loadUnitSettings | readTable | readStatus | readNode | readZone | readStage | readFinishCauses
  | readCounters | filterReplaced | forwardToNode | setNoticeMask | clearNotices | clearLockout | clearPumpFault
  | serviceDrive | injectSample | storeRead | storeWrite | zoneLineReset | restart
deriving DecidableEq, Repr

/-- The request a number names (Table 11-2). -/
def requestOf (number : Byte) : Option RequestKind :=
  match number.toNat with
  | 0x01 => some .setMode | 0x02 => some .setZoneTargets | 0x03 => some .loadZoneEntry | 0x04 => some .loadPollList
  | 0x05 => some .loadFanCurve | 0x06 => some .loadRampProfile | 0x07 => some .loadFilterClass
  | 0x08 => some .loadDamperEntry | 0x09 => some .loadUnitSettings | 0x0A => some .readTable
  | 0x0B => some .readStatus | 0x0C => some .readNode | 0x0D => some .readZone | 0x0E => some .readStage
  | 0x0F => some .readFinishCauses | 0x10 => some .readCounters | 0x11 => some .filterReplaced
  | 0x12 => some .forwardToNode | 0x13 => some .setNoticeMask | 0x14 => some .clearNotices
  | 0x15 => some .clearLockout | 0x16 => some .clearPumpFault | 0x17 => some .serviceDrive
  | 0x18 => some .injectSample | 0x19 => some .storeRead | 0x1A => some .storeWrite | 0x1B => some .zoneLineReset
  | 0x1C => some .restart
  | _ => none

/-- The payload length Table 11-2 fixes for a request, its number included; none for a variable one. -/
def fixedLength : RequestKind → Option Nat
  | .setMode => none | .setZoneTargets => some 6 | .loadZoneEntry => some 10 | .loadPollList => none
  | .loadFanCurve => some 35 | .loadRampProfile => none | .loadFilterClass => some 17 | .loadDamperEntry => some 9
  | .loadUnitSettings => some 28 | .readTable => some 3 | .readStatus => some 2 | .readNode => some 2
  | .readZone => some 2 | .readStage => some 2 | .readFinishCauses => some 1 | .readCounters => some 1
  | .filterReplaced => some 7 | .forwardToNode => none | .setNoticeMask => some 4 | .clearNotices => some 4
  | .clearLockout => some 1 | .clearPumpFault => some 1 | .serviceDrive => none | .injectSample => some 15
  | .storeRead => some 4 | .storeWrite => some 7 | .zoneLineReset => some 1 | .restart => some 1

/-! ### Fields of a request (Table 11-5) -/

/-- The octet at a place of a request's fields. -/
def byteAt (k : Nat) (fields : List Byte) : Byte := fields.getD k 0#8

/-- The 16-bit field that begins at a place (00_scope 4.6). -/
def halfAt (k : Nat) (fields : List Byte) : Half := half (byteAt k fields) (byteAt (k + 1) fields)

/-- The unsigned number that a 16-bit field holds. -/
def numAt (k : Nat) (fields : List Byte) : Nat := (halfAt k fields).toNat

/-- The 32-bit field that begins at a place (00_scope 4.6). -/
def wordAt (k : Nat) (fields : List Byte) : Word :=
  word (byteAt k fields) (byteAt (k + 1) fields) (byteAt (k + 2) fields) (byteAt (k + 3) fields)

/-- The zone or damper a number names, 0 to 5. -/
def sixOf (o : Byte) : Option (Fin 6) := if h : o.toNat < 6 then some ⟨o.toNat, h⟩ else none

/-- The ramp profile or filter class a number names, 0 to 3. -/
def quadOf (o : Byte) : Option (Fin 4) := if h : o.toNat < 4 then some ⟨o.toNat, h⟩ else none

/-- Octets two by two. -/
def pairs : List Byte → List (Byte × Byte)
  | a :: b :: rest => (a, b) :: pairs rest
  | _ => []

/-- The 16-bit fields that octets hold. -/
def halves : List Byte → List Half
  | a :: b :: rest => half a b :: halves rest
  | _ => []

/-! ### Request payloads (Table 11-5) -/

/-- Set Mode. -/
def payloadSetMode (mode : Byte) (source : Option Byte) : List Byte := [0x01#8, mode] ++ source.toList

/-- Set Zone Targets. -/
def payloadSetZoneTargets (zone : Byte) (pm rh : Half) : List Byte := [0x02#8, zone] ++ octets16 pm ++ octets16 rh

/-- Load Zone Entry. -/
def payloadLoadZoneEntry (zone enabled address : Byte) (pm : Half) (gain : Byte) (rh : Half) (drying : Byte) : List Byte :=
  [0x03#8, zone, enabled, address] ++ octets16 pm ++ [gain] ++ octets16 rh ++ [drying]

/-- Load Poll List. -/
def payloadLoadPollList (count : Byte) (entries : List (Byte × Byte)) : List Byte :=
  [0x04#8, count] ++ entries.flatMap fun e => [e.1, e.2]

/-- Load Fan Curve. -/
def payloadLoadFanCurve (points : List Half) : List Byte := [0x05#8] ++ points.flatMap octets16

/-- Load Ramp Profile. -/
def payloadLoadRampProfile (profile count : Byte) (bands : List (Half × Byte × Byte)) : List Byte :=
  [0x06#8, profile, count] ++ bands.flatMap fun b => octets16 b.1 ++ [b.2.1, b.2.2]

/-- The eight fields of a filter class, 15 octets (Table 11-5, Table 11-10). -/
def classOctets (f : ClassFields) : List Byte :=
  octets16 f.capacity ++ octets16 f.efficiency ++ octets16 f.clean ++ octets16 f.worn ++ octets16 f.absent ++ [f.slope]
    ++ octets16 f.reference ++ octets16 f.due

/-- Load Filter Class. -/
def payloadLoadFilterClass (number : Byte) (f : ClassFields) : List Byte := [0x07#8, number] ++ classOctets f

/-- Load Damper Entry. -/
def payloadLoadDamperEntry (damper fitted : Byte) (travel bleed rest : Half) : List Byte :=
  [0x08#8, damper, fitted] ++ octets16 travel ++ octets16 bleed ++ octets16 rest

/-- The eighteen fields of the unit settings, 27 octets (Table 11-5). -/
def settingsOctets (f : SettingsFields) : List Byte :=
  [f.nodeAddress, f.relayEnable, f.polarity, f.runProfile, f.quietProfile] ++ octets16 f.runCap ++ octets16 f.quietCap
    ++ octets16 f.idleDuty ++ octets16 f.coilMinimum ++ octets16 f.fixedShare ++ octets16 f.holdTime ++ octets16 f.callOn
    ++ octets16 f.callOff ++ octets16 f.wakeThreshold ++ [f.autoWake, f.pumpFitted, f.edges, f.pulses]

/-- Load Unit Settings. -/
def payloadLoadUnitSettings (f : SettingsFields) : List Byte := [0x09#8] ++ settingsOctets f

/-- Read Table. -/
def payloadReadTable (selector index : Byte) : List Byte := [0x0A#8, selector, index]

/-- Read Status. -/
def payloadReadStatus (page : Byte) : List Byte := [0x0B#8, page]

/-- Read Node. -/
def payloadReadNode (address : Byte) : List Byte := [0x0C#8, address]

/-- Read Zone. -/
def payloadReadZone (zone : Byte) : List Byte := [0x0D#8, zone]

/-- Read Stage. -/
def payloadReadStage (stage : Byte) : List Byte := [0x0E#8, stage]

/-- Read Finish Causes. -/
def payloadReadFinishCauses : List Byte := [0x0F#8]

/-- Read Counters. -/
def payloadReadCounters : List Byte := [0x10#8]

/-- Filter Replaced. -/
def payloadFilterReplaced (stage number : Byte) (stamp : Word) : List Byte := [0x11#8, stage, number] ++ octets32 stamp

/-- Forward To Node. -/
def payloadForwardToNode (address length : Byte) (data : List Byte) : List Byte := [0x12#8, address, length] ++ data

/-- Set Notice Mask. -/
def payloadSetNoticeMask (mask : BitVec 24) : List Byte := [0x13#8] ++ octets24 mask

/-- Clear Notices. -/
def payloadClearNotices (kinds : BitVec 24) : List Byte := [0x14#8] ++ octets24 kinds

/-- Clear Lockout. -/
def payloadClearLockout : List Byte := [0x15#8]

/-- Clear Pump Fault. -/
def payloadClearPumpFault : List Byte := [0x16#8]

/-- Service Drive with a blower demand alone. -/
def payloadServiceBlower (demand : Half) : List Byte := [0x17#8, 0x01#8] ++ octets16 demand

/-- Service Drive with a list of damper targets alone. -/
def payloadServiceDampers (targets : List (Byte × Half)) : List Byte :=
  [0x17#8, 0x02#8, octet targets.length] ++ targets.flatMap fun t => t.1 :: octets16 t.2

/-- Service Drive with a pump request alone. -/
def payloadServicePump (on : Bool) : List Byte := [0x17#8, 0x04#8, boolCode on]

/-- Service Drive with a compressor request alone. -/
def payloadServiceCompressor (on : Bool) : List Byte := [0x17#8, 0x08#8, boolCode on]

/-- Inject Sample. -/
def payloadInjectSample (address : Byte) (f : SampleFields) : List Byte :=
  [0x18#8, address] ++ octets16 f.temperature ++ octets16 f.rh ++ octets16 f.pm25 ++ octets16 f.pm10
    ++ octets16 f.pressure ++ octets16 f.coil ++ [f.status]

/-- Store Read. -/
def payloadStoreRead (address : Half) (count : Byte) : List Byte := [0x19#8] ++ octets16 address ++ [count]

/-- Store Write. -/
def payloadStoreWrite (address : Half) (data : Word) : List Byte := [0x1A#8] ++ octets16 address ++ octets32 data

/-- Zone Line Reset. -/
def payloadZoneLineReset : List Byte := [0x1B#8]

/-- Restart. -/
def payloadRestart : List Byte := [0x1C#8]

end Sys2Proof.Machine
end

