-- ==== Sys2Proof/Machine/Flags.lean ====
section
/-! DEFINITION. The yes-or-no conditions and derived states that several blocks consult: the cycle interval of a mode,
elapsed times, drying-active, the start conditions, the stage state, the tank level. -/
namespace Sys2Proof.Machine

/-- The cycle interval in ms of a unit mode and service source; none where no cycles run (Table 1-2). -/
def cycleInterval (mode : UnitMode) (source : ServiceSource) : Option Nat :=
  match mode with
  | .run => some 2000
  | .quiet => some 4000
  | .off => some 10000
  | .standby => some 60000
  | .service => match source with
    | .line => some 2000
    | .inject => none

/-- The time from one time base value to another, modulo 2^32 (R17). -/
def elapsed (since now : Word) : Nat := (now - since).toNat

/-- The time base value a number of ms after another (R17). -/
def after (since : Word) (ms : Nat) : Word := since + BitVec.ofNat 32 ms

/-- A time base value is present and less than the hold time (in s) has elapsed since it (R29, R31, R33). -/
def withinHold (holdTime : Nat) (now : Word) : Option Word → Bool
  | some t => decide (elapsed t now < holdTime * 1000)
  | none => false

/-- Drying-active: Airflow-Wait, Running or Defrost (Table 7-1, R122). -/
def dryingStates : DsState → Bool
  | .airflowWait => true
  | .running => true
  | .defrost => true
  | _ => false

/-- The unit mode is Run or Quiet. -/
def runMode : UnitMode → Bool
  | .run => true
  | .quiet => true
  | _ => false

/-- The unit mode is Off or Standby. -/
def restMode : UnitMode → Bool
  | .off => true
  | .standby => true
  | _ => false

/-- The start conditions of the Drying Sequencer (R119). -/
def startConditions (ds : Sequencer) : Bool :=
  runMode ds.mode && ds.call && !ds.tankBlocked && ds.coil.isSome && !ds.nodeLost && !ds.faulted
    && ds.state != .lockout

/-- The stage state of a life under a due threshold (Table 6-3). -/
def stageStateOf (life due : Nat) : StageState :=
  if life < due then .fresh else if life < 1000 then .due else .worn

/-- The tank level of four debounced switches, Present, Low, High, Full (Table 8-1). -/
def levelOf : Option Bool → Option Bool → Option Bool → Option Bool → TankLevel
  | some present, some low, some high, some full =>
    if !present then .absent
    else match low, high, full with
      | false, false, false => .empty
      | true, false, false => .normal
      | true, true, false => .high
      | true, true, true => .full
      | false, true, _ => .fault
      | _, false, true => .fault
  | _, _, _, _ => .unsettled

/-- The levels that make the tank blocked (Table 8-2). -/
def blockingLevel : TankLevel → Bool
  | .absent => true
  | .full => true
  | .fault => true
  | _ => false

/-- The levels that let the re-arm timer run (Table 8-2). -/
def safeLevel : TankLevel → Bool
  | .empty => true
  | .normal => true
  | _ => false

/-- The levels at which the pump starts (R141). -/
def pumpLevel : TankLevel → Bool
  | .high => true
  | .full => true
  | _ => false

/-- The three conditions under which the stall timer runs (R56). -/
def stallConditions (bd : Blower) : Bool :=
  bd.state == .running && bd.speed == 0 && decide (150 ≤ bd.applied)

/-- The number of frames of a kind in the upward queue (R171). -/
def countFrames (kind : FrameKind) (frames : List Frame) : Nat := (frames.filter (fun f => f.kind == kind)).length

/-- The two conditions under which the front Request is taken (R168). -/
def canTake (pl : Panel) : Bool := decide (countFrames .reply pl.upward < 4) && !pl.restartPending

/-- The panel link takes a Request at once when it arrives: none waits before it and the conditions of R168 hold. -/
def linkReady (pl : Panel) : Bool := pl.requests.isEmpty && canTake pl

/-- A frame is the Reply of a taken Restart request (R170): request number 1Ch with status Done. -/
def isRestartReply (f : Frame) : Bool := f.kind == .reply && f.payload == [0x1C#8, 0x00#8]

/-- One millisecond less on a timer that runs. -/
def countDown : Option Nat → Option Nat
  | some n => some (n - 1)
  | none => none

/-- A running timer has nothing left. -/
def ranOut : Option Nat → Bool
  | some 0 => true
  | _ => false

/-- The time left on a timer, or 0 when it does not run (R117, R147). -/
def leftOf : Option Nat → Nat
  | some n => n
  | none => 0

end Sys2Proof.Machine
end

