-- ==== Sys2Proof/Machine/Signal.lean ====
section
/-! DEFINITION. What passes between the blocks inside one step: the paths of 00_scope Table 0-2. A block that handles
an event changes its own state and answers the list of what it delivers, in the order the model takes (log 7). -/
namespace Sys2Proof.Machine

/-- The deliveries to the Drying Sequencer (Table 7-3, Table 7-4). -/
inductive DsEvent where
  | call | tank | fault | applied | unitReading | unitLost | unitOther | lineReset | mode
deriving DecidableEq, Repr

/-- One delivery. -/
inductive Signal where
  /-- Any block to PL: a notice is posted (R172). -/
  | notice (kind : NoticeKind) (subject : Option Byte)
  /-- IU to PL: the payload of a Relay (R13, Table 11-7). -/
  | relay (payload : List Byte)
  /-- FS and BD to NVS: a checkpoint (R112, R64). -/
  | checkpoint (item : StoreItem)
  /-- IU: an accepted or injected reading, to be delivered by R13. -/
  | reading (address : Nat) (stamp : Word) (sequence : Option Byte) (fields : Reading)
  /-- IU to DMU: the state of a node, for every zone naming it (R4, R13). -/
  | nodeState (address : Nat) (state : NodeState)
  /-- IU to DU, FS and DS: an accepted reading of the unit node (R13). -/
  | unitReading (stamp : Word) (fields : Reading)
  /-- IU to DU, FS and DS: the unit node is Lost, or is in another state (R4, R13). -/
  | unitState (state : NodeState)
  /-- IU to DMU, DU, FS and DS: a Zone Line Reset (R24). -/
  | lineReset
  /-- A trigger of the demand update (Table 2-5). -/
  | demandUpdate
  /-- DMU to BD: the demanded duty (R43). -/
  | demandedDuty (duty : Nat)
  /-- DMU to DP: a damper target in steps (R41). -/
  | damperTarget (damper : Fin 6) (target : Nat)
  /-- DMU to DS: the drying call changed (R43). -/
  | dryingCall (on : Bool)
  /-- DMU to MC: the largest zone demand (R43). -/
  | largestDemand (d : Nat)
  /-- MC to all blocks: the unit mode changed (R149); the source the old mode had. -/
  | modeChange (old new : UnitMode) (oldSource : ServiceSource)
  /-- MC to IU: the service source changed within Service (R149). -/
  | sourceChange (old new : ServiceSource)
  /-- MC to BD: a Set Mode naming Off was taken (R60, R150). -/
  | setModeOff
  /-- MC to the blocks that read them: the unit settings were loaded; the record before the load (R157). -/
  | settingsLoaded (before : Settings)
  /-- BD to DS: the applied duty changed (R45). -/
  | appliedDuty (duty : Nat)
  /-- BD to DS: the blower is faulted, or is no longer (R60). -/
  | blowerFaulted (faulted : Bool)
  /-- BD to DP: limit met (R52). -/
  | limitMet (applied reductions : Nat)
  /-- DS to DMU: drying-active (R122). -/
  | dryingActive (on : Bool)
  /-- TM to DS: the tank is blocked, or is clear (R138, R139). -/
  | tankReport (blocked : Bool)
  /-- FS to DMU: the fine stage is Missing, or no longer (R110). -/
  | filterMissing (missing : Bool)
deriving DecidableEq, Repr

/-- What the owner of a Request returns (R168 step 4): a status, the reply data, and the state the Request leaves. -/
structure Answer where
  status : Status
  data : List Byte
  state : State

end Sys2Proof.Machine
end

