-- ==== Sys2Proof/Machine/Ops.lean ====
section
/-! DEFINITION. The shared operations: the octets of the store and its records (Chapter 10), the write queue, and the
frames, notices and Replies of the panel link (Chapter 11). -/
namespace Sys2Proof.Machine

/-! ### Octets of the store (R158) -/

/-- What an octet that the store does not list reads as: an erased octet reads FFh (R158). -/
def Memory.erased : Byte := 0xFF#8

/-- The octet at an address. -/
def Memory.read : List Host.Cell → Nat → Byte
  | [], _ => Memory.erased
  | (b, v) :: rest, a => if a = b then v else Memory.read rest a

/-- Write one octet; the canonical form is kept: addresses rise strictly and no listed octet is FFh. -/
def Memory.write : List Host.Cell → Nat → Byte → List Host.Cell
  | [], a, v => if v = Memory.erased then [] else [(a, v)]
  | (b, w) :: rest, a, v =>
    if a < b then (if v = Memory.erased then (b, w) :: rest else (a, v) :: (b, w) :: rest)
    else if a = b then (if v = Memory.erased then rest else (a, v) :: rest)
    else (b, w) :: Memory.write rest a v

/-- The canonical form: addresses above `low` rise strictly, and no listed octet reads as an unlisted one. -/
def Memory.wfFrom : Nat → List Host.Cell → Bool
  | _, [] => true
  | low, (a, v) :: rest => decide (low ≤ a) && v != Memory.erased && Memory.wfFrom (a + 1) rest

/-- The canonical form of the store's octets. -/
def Memory.wf (cells : List Host.Cell) : Bool := Memory.wfFrom 0 cells

/-- Write a run of octets from an address upward. -/
def Memory.writeAll : List Host.Cell → Nat → List Byte → List Host.Cell
  | cells, _, [] => cells
  | cells, a, v :: rest => Memory.writeAll (Memory.write cells a v) (a + 1) rest

/-- Read a run of octets from an address upward. -/
def Memory.readAll (cells : List Host.Cell) (a : Nat) : Nat → List Byte
  | 0 => []
  | n + 1 => Memory.read cells a :: Memory.readAll cells (a + 1) n

/-! ### Records (R159) -/

/-- The sum of octets modulo 256. -/
def octetSum (octets : List Byte) : Byte := octets.foldl (· + ·) 0#8

/-- A record of the store: key, length in words, data, and the check octet that makes the sum 0 modulo 256 (R159). -/
def recordOctets (k0 k1 : Byte) (data : List Byte) : List Byte :=
  let body := [k0, k1, octet (data.length / 2)] ++ data
  body ++ [-octetSum body]

/-- The data of the record at an address when it is valid for a key and a length in words (R159): its key is the one
expected, so not both FFh; its length is the one of its kind, so in 1 to 32; and the sum of its octets is 0. -/
def recordAt (cells : List Host.Cell) (a : Nat) (k0 k1 : Byte) (words : Nat) : Option (List Byte) :=
  let octets := Memory.readAll cells a (2 * words + 4)
  if octets.take 3 = [k0, k1, octet words] ∧ octetSum octets = 0#8 then some ((octets.drop 3).take (2 * words)) else none

/-- Octets filled up to whole words with FFh (R161). -/
def fillWords (octets : List Byte) : List Byte :=
  octets ++ List.replicate ((4 - octets.length % 4) % 4) Memory.erased

/-- The first address of a target (Table 10-2). -/
def targetAddress : StoreTarget → Nat
  | .f1 => 256
  | .f2 => 288
  | .bh => 320
  | .panel a => a

/-- The target as Read Status returns it: slot key or panel word address (Table 11-6). -/
def targetOctets : StoreTarget → List Byte
  | .f1 => [0x46#8, 0x31#8]
  | .f2 => [0x46#8, 0x32#8]
  | .bh => [0x42#8, 0x48#8]
  | .panel a => nat16 a

/-- The run-hour checkpoint (R64, Table 11-10). -/
def runHourItem (seconds : Nat) : StoreItem :=
  ⟨.bh, fillWords (recordOctets 0x42#8 0x48#8 (nat32 seconds))⟩

/-- The data of a stage checkpoint (R112, Table 11-10). -/
def stageData (r : StageRecord) : List Byte :=
  [octet r.number.val] ++ nat32 r.dose ++ nat16 r.held ++ nat16 r.life
    ++ [(if r.restored then 1#8 else 0#8) ||| (if r.state = .missing then 2#8 else 0#8)] ++ octets32 r.stamp

/-- A stage checkpoint; stage 2 is the fine stage (R112, Table 10-2). -/
def stageItem (fine : Bool) (r : StageRecord) : StoreItem :=
  if fine then ⟨.f2, fillWords (recordOctets 0x46#8 0x32#8 (stageData r))⟩
  else ⟨.f1, fillWords (recordOctets 0x46#8 0x31#8 (stageData r))⟩

/-! ### The write queue (R161, R162) -/

/-- Put an item into the queue: it takes over the data of a waiting item for its target, or joins the back (R162). -/
def queueItem (item : StoreItem) : List StoreItem → List StoreItem
  | [] => [item]
  | x :: rest => if x.target = item.target then item :: rest else x :: queueItem item rest

/-- Begin the write of the front item when none is in progress (R162): the words it covers are erased at its start
(R161 step 1). -/
def beginWrite (nvs : Store) : Store :=
  match nvs.current, nvs.queue with
  | none, item :: rest =>
    { cells := Memory.writeAll nvs.cells (targetAddress item.target)
        (List.replicate item.octets.length Memory.erased)
      queue := rest
      current := some ⟨item, item.octets.length / 4, wordTime⟩ }
  | _, _ => nvs

/-- Hand an item to the store (R162). -/
def handItem (item : StoreItem) (nvs : Store) : Store :=
  beginWrite { nvs with queue := queueItem item nvs.queue }

/-- The word being written is complete (R161): the highest of those left is written; after the first word of the item
the write ends and the next begins. -/
def wordDone (nvs : Store) : Store :=
  match nvs.current with
  | none => nvs
  | some w =>
    let k := w.wordsLeft - 1
    let cells := Memory.writeAll nvs.cells (targetAddress w.item.target + 4 * k) ((w.item.octets.drop (4 * k)).take 4)
    if k = 0 then beginWrite { nvs with cells := cells, current := none }
    else { nvs with cells := cells, current := some { w with wordsLeft := k, left := wordTime } }

/-! ### The panel link's transmitter and notices (R171, R172) -/

/-- A notice kind is not masked (R173). -/
def unmasked (mask : BitVec 24) (kind : NoticeKind) : Bool := !mask.getLsbD (noticeCode kind)

/-- The kind octet of an upward frame (Table 11-4). -/
def frameKindCode : FrameKind → Byte
  | .reply => 0x02#8 | .relay => 0x03#8 | .notice => 0x04#8

/-- The octets of an upward frame on the panel link: the lead, the payload length, the kind, the tag, the payload and the
check of R2 over them, high octet first (R166, Table 11-4). -/
def frameOctets (f : Frame) : List Byte :=
  withCheck ([0x3C#8, octet f.payload.length, frameKindCode f.kind, f.tag] ++ f.payload)

/-- The octets that the panel link carries for the frame in transmission (R166, R171). -/
def upwardOctets (pl : Panel) : List Byte :=
  match pl.sending with
  | some x => frameOctets x.frame
  | none => []

/-- The oldest unmasked entry of the pending notice set, and the set without it (R172). -/
def takeNotice (mask : BitVec 24) : List PendingNotice → Option (PendingNotice × List PendingNotice)
  | [] => none
  | e :: rest =>
    if unmasked mask e.kind then some (e, rest)
    else match takeNotice mask rest with
      | some (x, left) => some (x, e :: left)
      | none => none

/-- The payload of a Notice (Table 11-7). -/
def noticePayload (e : PendingNotice) : List Byte := [octet (noticeCode e.kind), optOctet e.subject]

/-- Form Notice frames from the oldest unmasked entries while fewer than 4 Notices stand, at most `n` (R172). -/
def formNotices : Nat → Panel → Panel
  | 0, pl => pl
  | n + 1, pl =>
    if countFrames .notice pl.upward < 4 then
      match takeNotice pl.mask pl.pending with
      | some (e, left) => formNotices n { pl with
          pending := left
          upward := pl.upward ++ [⟨.notice, pl.upNumber, noticePayload e⟩]
          upNumber := pl.upNumber + 1#8 }
      | none => pl
    else pl

/-- The transmitter, when idle, begins the frame at the front (R171). -/
def startSending (pl : Panel) : Panel :=
  match pl.sending, pl.upward with
  | none, f :: rest => { pl with upward := rest, sending := some ⟨f, panelLinkTime (frameOctets f).length⟩ }
  | _, _ => pl

/-- What follows every change of the upward queue, of the pending set or of the mask (R171, R172): Notices are formed as
there is room, an idle transmitter begins, and its departure may let one more Notice be formed. -/
def pump (pl : Panel) : Panel := formNotices 4 (startSending (formNotices 4 pl))

/-- Post a notice (R172): an entry already in the set changes nothing. -/
def post (kind : NoticeKind) (subject : Option Byte) (pl : Panel) : Panel :=
  pump (if (⟨kind, subject⟩ : PendingNotice) ∈ pl.pending then pl else { pl with pending := pl.pending ++ [⟨kind, subject⟩] })

/-- The upward queue without its oldest Relay (R171). -/
def dropOldestRelay : List Frame → List Frame
  | [] => []
  | f :: rest => if f.kind = .relay then rest else f :: dropOldestRelay rest

/-- Hand a Relay to the upward queue (R171): a Relay that finds 16 standing causes the oldest to be removed. -/
def placeRelay (payload : List Byte) (pl : Panel) : Panel :=
  let room := if 16 ≤ countFrames .relay pl.upward then
      { pl with upward := dropOldestRelay pl.upward, relaysDropped := pl.relaysDropped + 1#16 }
    else pl
  pump { room with
    upward := room.upward ++ [⟨.relay, room.upNumber, payload⟩]
    upNumber := room.upNumber + 1#8 }

/-- Place a Reply at the back of the upward queue and keep the last error record (R168, R169). -/
def placeReply (tag number : Byte) (status : Status) (data : List Byte) (pl : Panel) : Panel :=
  let noted := if status = .done ∨ status = .clamped then pl else { pl with errorStatus := status, errorRequest := number }
  pump { noted with upward := noted.upward ++ [⟨.reply, tag, [number, statusCode status] ++ data⟩] }

/-- A Request that passed the checks of R166 joins the request queue, or is dropped when 4 are waiting (R167). -/
def queueRequest (tag : Byte) (payload : List Byte) (pl : Panel) : Panel :=
  if pl.requests.length < 4 then { pl with requests := pl.requests ++ [⟨tag, payload⟩] }
  else { pl with requestsDropped := pl.requestsDropped + 1#16, overrun := true }

/-! ### Replies of a Request's owner (R168) -/

/-- A Request refused with a status: no effect. -/
def refuse (status : Status) (s : State) : Answer := ⟨status, [], s⟩

/-- A Request carried out without reply data. -/
def carried (s : State) : Answer := ⟨.done, [], s⟩

end Sys2Proof.Machine
end

