-- ==== Sys2Proof/Machine/Blower.lean ====
section
/-! DEFINITION. The Blower Drive (Chapter 3): the ramp tick, the air allowance and cuts, tach and speed, stall, retry and
Fault, and the run hours. -/
namespace Sys2Proof.Machine

/-! ### Ramp and allowance (R47 to R52) -/

/-- The nanoseconds of each 40 µs period for which the PWM output is high (R45). -/
def pwmHigh (bd : Blower) : Nat := bd.applied * 40

/-- The profile in use: the quiet profile in Quiet, the run profile in every other mode (R48). -/
def profileInUse (mc : ModeControl) (bd : Blower) : List Band :=
  bd.profiles.get (if mc.mode = .quiet then mc.settings.quietProfile else mc.settings.runProfile)

/-- The band for an applied duty: the first whose ceiling is above it, else the last (R48). -/
def bandFor (applied : Nat) : List Band → Band
  | [] => ⟨0, 0, 0⟩
  | [b] => b
  | b :: rest => if applied < b.ceiling then b else bandFor applied rest

/-- One ramp step toward a target (R48). -/
def rampStep (band : Band) (target applied : Nat) : Nat :=
  if applied < target then min target (applied + band.rise)
  else if target < applied then max target (applied - band.fall)
  else applied

/-- The sum of the six shares. -/
def shareSum (d : Six Damper) : Nat :=
  d.z0.share + d.z1.share + d.z2.share + d.z3.share + d.z4.share + d.z5.share

/-- The sum of the six pending reductions. -/
def pendingSum (d : Six Damper) : Nat :=
  d.z0.pending + d.z1.pending + d.z2.pending + d.z3.pending + d.z4.pending + d.z5.pending

/-- The air allowance L (R50). -/
def allowanceOf (fixedShare : Nat) (d : Six Damper) : Nat := min 1000 (fixedShare + shareSum d - pendingSum d)

/-- The finish cause of a run that ends by ramp or cut in a mode (R57). -/
def runEndCause : UnitMode → BlowerFinish
  | .run => .demand
  | .quiet => .demand
  | .off => .mode
  | .standby => .mode
  | .service => .service

/-- The stall timer has expired, and its expiry is still to be taken, while the blower is Running with speed 0: a ramp
tick that is taken first may lower the applied duty below 150, and the expiry is taken all the same (R58, log 38). -/
def stallExpired (bd : Blower) : Bool :=
  bd.stallLeft == some 0 && bd.state == .running && bd.speed == 0

/-- The stall timer follows its three conditions (R56): it starts at the event that makes the last of them hold and is
cancelled at the event that makes one fail, but for a timer that has expired (R58). -/
def watchStall (bd : Blower) : Blower :=
  if stallConditions bd || stallExpired bd then
    match bd.stallLeft with
    | some _ => bd
    | none => { bd with stallLeft := some stallTime }
  else { bd with stallLeft := none }

/-- Steps 2 and 3 of a ramp tick: a cut, or a ramp step in Stopped and Running (R47, R48, R51). -/
def moveDuty (mc : ModeControl) (l : Nat) (bd : Blower) : Blower :=
  if l < bd.applied then { bd with applied := l, cuts := bd.cuts + 1#16 }
  else if bd.state = .stopped ∨ bd.state = .running then
    { bd with applied := rampStep (bandFor bd.applied (profileInUse mc bd)) (min bd.staged l) bd.applied }
  else bd

/-- Step 4 of a ramp tick: the blower state is settled (R57). -/
def settleBlower (mode : UnitMode) (bd : Blower) : Blower :=
  match bd.state with
  | .stopped => if 0 < bd.applied then { bd with state := .running, healthyLeft := some healthyTime } else bd
  | .running =>
    if bd.applied = 0 then { bd with state := .stopped, finish := runEndCause mode, healthyLeft := none } else bd
  | _ => bd

/-- The delivery of a change of the applied duty to the DS (R45). -/
def appliedDelivery (before now : Nat) : List Signal := if before = now then [] else [.appliedDuty now]

/-- A ramp tick on the Blower Drive (R47): the shares and pending reductions are those the Damper Positioner holds at
that instant. -/
def blowerTick (mc : ModeControl) (d : Six Damper) (bd : Blower) : Blower × List Signal :=
  let l := allowanceOf mc.settings.fixedShare d
  let settled := watchStall (settleBlower mc.mode (moveDuty mc l { bd with allowance := l, rampLeft := rampPeriod }))
  (settled, appliedDelivery bd.applied settled.applied
    ++ (if 0 < pendingSum d ∧ settled.applied ≤ l then [.limitMet settled.applied (pendingSum d)] else []))

/-! ### Demand and modes (R46, R59, R60, R64) -/

/-- The demanded duty delivered by the DMU replaces the staged demand, but in Service (R46). -/
def stageDemand (mode : UnitMode) (duty : Nat) (bd : Blower) : Blower :=
  if mode = .service then bd else { bd with staged := duty }

/-- A mode change at the Blower Drive: the staged demand on entry to Service (R46), the end of a Retry-Wait (R59), and
the run-hour checkpoint on a change into Off or Standby (R64). -/
def blowerMode (new : UnitMode) (bd : Blower) : Blower × List Signal :=
  let stagedFor := if new = .service then { bd with staged := 0 } else bd
  let ended := if bd.state = .retryWait ∧ runMode new = false then
      { stagedFor with state := .stopped, retryLeft := none, finish := runEndCause new }
    else stagedFor
  (ended, if restMode new then [.checkpoint (runHourItem bd.runSeconds)] else [])

/-- A Set Mode naming Off (R60): it leaves Fault, and sets the retry count to 0 in every state. -/
def blowerOffRequested (bd : Blower) : Blower × List Signal :=
  if bd.state = .fault then ({ bd with state := .stopped, retryCount := 0 }, [.blowerFaulted false])
  else ({ bd with retryCount := 0 }, [])

/-! ### Tach (R53 to R55) -/

/-- The speed of a capture of `edges` edges over a time in µs (R54). -/
def captureSpeed (settings : Settings) (time : Nat) : Nat := min 4000 (60000000 * settings.edges / (settings.pulses * time))

/-- A rising edge of the tach input at an instant in µs (R53, R54). -/
def tachEdge (settings : Settings) (instant : Nat) (bd : Blower) : Blower :=
  if bd.chain.reference then
    if settings.edges ≤ bd.chain.edges + 1 then
      watchStall { bd with
        speed := captureSpeed settings (max 1 (instant - bd.chain.lastCapture))
        chain := ⟨true, 0, instant⟩
        noCaptureLeft := some noCaptureTime }
    else { bd with chain := { bd.chain with edges := bd.chain.edges + 1 } }
  else { bd with chain := ⟨true, 0, instant⟩, noCaptureLeft := some noCaptureTime }

/-- The no-capture timer expires (R54). -/
def noCapture (bd : Blower) : Blower :=
  match bd.noCaptureLeft with
  | some _ => watchStall { bd with speed := 0, chain := { bd.chain with reference := false }, noCaptureLeft := none }
  | none => bd

/-- A load of the unit settings that changes the edges per capture (R55): the speed keeps its value and the no-capture
timer runs on. -/
def edgesLoaded (before new : Nat) (bd : Blower) : Blower :=
  if before = new then bd
  else { bd with chain := { bd.chain with reference := false, edges := 0 } }

/-! ### Stall, retry, healthy run (R58, R59, R61) -/

/-- The stall timer expires (R58). -/
def stallExpiry (bd : Blower) : Blower × List Signal :=
  match bd.stallLeft with
  | none => (bd, [])
  | some _ =>
    let stopped := { bd with applied := 0, retryCount := bd.retryCount + 1, healthyLeft := none, stallLeft := none }
    if 3 ≤ stopped.retryCount then
      ({ stopped with state := .fault, finish := .fault },
        appliedDelivery bd.applied 0 ++ [.notice .blowerFault none, .blowerFaulted true])
    else
      ({ stopped with state := .retryWait, finish := .stall, retryLeft := some retryTime },
        appliedDelivery bd.applied 0 ++ [.notice .blowerStall none])

/-- The retry timer expires (R59). -/
def retryExpiry (bd : Blower) : Blower :=
  match bd.retryLeft with
  | some _ =>
    { bd with state := .running, applied := 0, retryLeft := none, healthyLeft := some healthyTime, stallLeft := none }
  | none => bd

/-- The healthy-run timer expires (R61). -/
def healthyExpiry (bd : Blower) : Blower :=
  match bd.healthyLeft with
  | some _ => { bd with retryCount := 0, healthyLeft := none }
  | none => bd

/-! ### Run hours (R63, R64) -/

/-- The run-hour fraction reaches 1000 ms (R63): it returns to 0 and the count increases, to at most its largest value; a
whole hour queues a checkpoint (R64). The fraction reaches 1000 only while the applied duty is above 0; a fraction the
clock has brought to 1000 is wrapped here even when the duty has just fallen to 0 (log 35). -/
def runSecond (bd : Blower) : Blower × List Signal :=
  if 0 < bd.applied ∨ 1000 ≤ bd.runFraction then
    let seconds := min 4294967295 (bd.runSeconds + 1)
    ({ bd with runFraction := 0, runSeconds := seconds },
      if seconds ≠ bd.runSeconds ∧ seconds % 3600 = 0 then [.checkpoint (runHourItem seconds)] else [])
  else (bd, [])

end Sys2Proof.Machine
end

