-- ==== Sys2Proof/Machine/Damper.lean ====
section
/-! DEFINITION. The Damper Positioner (Chapter 4), damper by damper: targets, moves and the share, homing, Waiting and
the share-release handshake, slip, the seek after a close, and modes. A function that examines the home switch reads the
level its pin shows (`homeSwitch`, log 9). -/
namespace Sys2Proof.Machine

/-- An opening in permille from a number of steps (R73). -/
def openingOfSteps (travel steps : Nat) : Nat := steps * 1000 / travel

/-- The position a damper stands at; 0 stands in where it is absent (only states that have a position ask). -/
def positionOf (d : Damper) : Nat := d.position.getD 0

/-- The target of a damper; 0 stands in where it is absent (only a fitted damper is asked). -/
def targetOf (d : Damper) : Nat := d.target.getD 0

/-- The required opening q (R73). -/
def requiredOpening (d : Damper) : Nat :=
  min (openingOfSteps d.entry.travel (targetOf d)) (openingOfSteps d.entry.travel (positionOf d))

/-- The damper becomes Settled where it stands, with its share set from its position (R75). -/
def settleHere (d : Damper) : Damper :=
  { d with
    state := .settled
    share := openingOfSteps d.entry.travel (positionOf d)
    seeking := false
    stepLeft := none }

/-- A move arrives (R75). -/
def arrive (d : Damper) : Damper := { settleHere d with finish := .arrived }

/-- The switch decides a close at position 0 (R81): an asserted switch is the arrival, else the seek begins. -/
def decideClose (d : Damper) : Damper :=
  if d.homeSwitch then arrive d
  else { d with
    state := .moving
    seeking := true
    confirmCount := 0
    towardOpen := false
    stepLeft := some homingInterval }

/-- The damper becomes Waiting with pending reduction share − q (R77). -/
def enterWaiting (d : Damper) : Damper :=
  { d with
    state := .waiting
    pending := d.share - requiredOpening d
    covered := none
    seeking := false
    stepLeft := none }

/-- A damper that stands still takes its target (R74). -/
def proceed (d : Damper) : Damper :=
  if requiredOpening d < d.share then enterWaiting d
  else if targetOf d = positionOf d then (if targetOf d = 0 then decideClose d else settleHere d)
  else { d with
    state := .moving
    seeking := false
    towardOpen := decide (positionOf d < targetOf d)
    stepLeft := some moveInterval }

/-- Homing has found the closed position (R72): the damper settles at 0 and takes its recorded target. -/
def homeFound (d : Damper) : Damper :=
  let found := { d with
    position := some 0
    state := .settled
    share := 0
    finish := .arrived
    seeking := false
    stepLeft := none }
  match found.target with
  | some _ => proceed found
  | none => found

/-- Homing starts (R71): the switch is examined once before the first step. -/
def startHoming (d : Damper) : Damper :=
  let begun := { d with state := .homing, share := 0, homingCount := 0, towardOpen := false, stepLeft := some homingInterval }
  if begun.homeSwitch then homeFound begun else begun

/-- A Moving damper takes a new target (R76), from the position it has reached. A seek that is abandoned takes its first
step 5 ms after the last seek step (R81): of the 10 ms of a seek step 5 ms are taken off. When that instant has passed
already, the first step is due at once; the manual does not say when it then falls, and this is the model's choice
(log 37). -/
def retargetMove (d : Damper) : Damper :=
  let ended := { d with finish := .retargeted }
  if requiredOpening ended < ended.share then enterWaiting ended
  else if targetOf ended = positionOf ended then
    (if targetOf ended = 0 then decideClose ended else arrive ended)
  else { ended with
    seeking := false
    towardOpen := decide (positionOf ended < targetOf ended)
    stepLeft := if ended.seeking then ended.stepLeft.map (· - moveInterval) else ended.stepLeft }

/-- A Waiting damper takes a new target (R77). -/
def retargetWaiting (d : Damper) : Damper :=
  if requiredOpening d < d.share then { d with pending := d.share - requiredOpening d }
  else proceed { d with pending := 0, covered := none }

/-- A target reaches a damper (Table 4-4). `service` says that it comes from Service Drive: such a target starts the
homing of an Unhomed damper, also when it equals the target held (R71, R85, log 17). A target above the travel is
lowered to it; one equal to the target held is no new request. -/
def takeTarget (service : Bool) (target : Nat) (d : Damper) : Damper :=
  let steps := min target d.entry.travel
  let recorded := { d with target := some steps }
  match d.state with
  | .unfitted => d
  | .unhomed => if service then startHoming recorded else recorded
  | .homing => recorded
  | .faulted => recorded
  | .settled => if d.target = some steps then d else proceed recorded
  | .moving => if d.target = some steps then d else retargetMove recorded
  | .waiting => if d.target = some steps then d else retargetWaiting recorded

/-- A ramp tick records the reduction taken of every Waiting damper (R78). -/
def recordCovered (d : Damper) : Damper := if d.state = .waiting then { d with covered := some d.pending } else d

/-- A limit-met report at one damper (R79): a Waiting damper whose pending reduction is covered is released. -/
def releaseShare (d : Damper) : Damper :=
  match d.state, d.covered with
  | .waiting, some c =>
    if d.pending ≤ c then proceed { d with share := d.share - d.pending, pending := 0, covered := none } else d
  | _, _ => d

/-- The notice about a damper with its number as subject (R69). -/
def damperNotice (kind : NoticeKind) (i : Fin 6) : Signal := .notice kind (some (octet i.val))

/-- One step of a move, the switch showing `home` at the step (R70, R80, R81). -/
def moveStep (i : Fin 6) (home : Bool) (d : Damper) : Damper × List Signal :=
  let shown := { d with homeSwitch := home }
  if d.state = .moving ∧ d.seeking = false then
    let position := if positionOf d < targetOf d then positionOf d + 1
      else if targetOf d < positionOf d then positionOf d - 1 else positionOf d
    let stepped := { shown with position := some position, towardOpen := decide (positionOf d < targetOf d), stepLeft := some moveInterval }
    if 20 < position ∧ home = true then
      (proceed { stepped with position := some 0, finish := .slip, stepLeft := none }, [damperNotice .damperSlip i])
    else if position = 0 then (decideClose stepped, [])
    else if position = targetOf d then (arrive stepped, [])
    else (stepped, [])
  else (shown, [])

/-- One step of a homing, the switch showing `home` at the step (R72). -/
def homingStep (i : Fin 6) (home : Bool) (d : Damper) : Damper × List Signal :=
  let shown := { d with homeSwitch := home }
  if d.state = .homing then
    let stepped := { shown with homingCount := d.homingCount + 1, towardOpen := false, stepLeft := some homingInterval }
    if home then (homeFound stepped, [])
    else if d.entry.travel + 200 ≤ stepped.homingCount then
      ({ stepped with state := .faulted, finish := .homeNotFound, position := none, stepLeft := none },
        [damperNotice .damperFault i])
    else (stepped, [])
  else (shown, [])

/-- One step of the seek after a close, the switch showing `home` at the step (R81). -/
def seekStep (i : Fin 6) (home : Bool) (d : Damper) : Damper × List Signal :=
  let shown := { d with homeSwitch := home }
  if d.state = .moving ∧ d.seeking = true then
    let stepped := { shown with confirmCount := d.confirmCount + 1, stepLeft := some homingInterval }
    if home then (arrive stepped, [])
    else if 40 ≤ stepped.confirmCount then
      ({ stepped with state := .faulted, finish := .homeLost, seeking := false, stepLeft := none },
        [damperNotice .damperFault i])
    else (stepped, [])
  else (shown, [])

/-- A mode change into Service stops a damper that is stepping (R85). -/
def stopForService (d : Damper) : Damper :=
  match d.state with
  | .moving => { settleHere d with target := d.position, finish := .mode }
  | .homing => { d with state := .unhomed, position := none, share := 0, finish := .mode, stepLeft := none }
  | _ => d

/-- A mode change out of Service starts the homing of every Unhomed fitted damper (R86). -/
def homeAfterService (d : Damper) : Damper :=
  if d.state = .unhomed ∧ d.entry.fitted = true then startHoming d else d

/-- A mode change at one damper (R84 to R86). -/
def damperMode (old new : UnitMode) (d : Damper) : Damper :=
  if new = .service then stopForService d
  else if old = .service then homeAfterService d
  else d

/-- Load Damper Entry on a damper (R68): the entry is replaced, the record set afresh, the finish cause kept, and outside
Service a fitted damper starts homing. -/
def loadDamper (mode : UnitMode) (entry : DamperEntry) (d : Damper) : Damper :=
  let afresh := { d with
    entry := entry
    state := if entry.fitted then .unhomed else .unfitted
    position := none
    target := if entry.fitted then some (entry.rest * entry.travel / 1000) else none
    share := 0
    pending := 0
    covered := none
    homingCount := 0
    confirmCount := 0
    seeking := false
    stepLeft := none }
  if entry.fitted = true ∧ mode ≠ .service then startHoming afresh else afresh

end Sys2Proof.Machine
end

