-- ==== Sys2Proof/Machine/Demand.lean ====
section
/-! DEFINITION. The Zone Table and Demand Unit (Chapter 2): sample states, the demand arithmetic, the drying call, the
demanded duty, the openings and targets, and the demand update. -/
namespace Sys2Proof.Machine

/-! ### Zone demand (R35 to R37) -/

/-- The cleaning demand of a Fresh or Held zone (R35). -/
def cleaningDemand (missing : Bool) (e : ZoneEntry) (pm25 : Option Nat) : Nat :=
  match pm25 with
  | none => 0
  | some p => if p ≤ e.pmTarget ∨ missing = true then 0 else min 1000 ((p - e.pmTarget) * e.gain / 4)

/-- The drying error of a Fresh or Held zone (R36). -/
def dryingError (e : ZoneEntry) (rh : Option Nat) : Option Int :=
  match rh with
  | none => none
  | some h => some ((h : Int) - e.rhTarget)

/-- The drying demand of a Fresh or Held zone (R36). -/
def dryingDemand (active : Bool) (e : ZoneEntry) (err : Option Int) : Nat :=
  match err with
  | none => 0
  | some x => if e.drying = true ∧ active = true ∧ 0 < x then min 1000 (x * 10).toNat else 0

/-- The sample state is Fresh or Held. -/
def evaluated : SampleState → Bool
  | .fresh => true
  | .held => true
  | _ => false

/-- The demand fields of a zone (Table 2-4, R37). -/
def zoneDemands (missing active : Bool) (z : Zone) : Zone :=
  if evaluated z.sample then
    let dPm := cleaningDemand missing z.entry z.pm25
    let err := dryingError z.entry z.rh
    let dRh := dryingDemand active z.entry err
    { z with dPm := dPm, err := err, dRh := dRh, d := if z.entry.enabled then max dPm dRh else 0 }
  else { z with dPm := 0, err := none, dRh := 0, d := 0 }

/-- The largest of the six zone demands, D (R37). -/
def largestOf (zones : Six Zone) : Nat :=
  max zones.z0.d (max zones.z1.d (max zones.z2.d (max zones.z3.d (max zones.z4.d zones.z5.d))))

/-! ### The drying call (R38) -/

/-- The drying error of a zone that qualifies for the call (R38). -/
def qualifyingError (z : Zone) : Option Int :=
  if z.entry.enabled = true ∧ z.entry.drying = true ∧ evaluated z.sample = true then z.err else none

/-- The larger of two errors, absent ones left out. -/
def maxError : Option Int → Option Int → Option Int
  | some a, some b => some (max a b)
  | some a, none => some a
  | none, b => b

/-- E, the largest drying error among the qualifying zones (R38). -/
def largestError (zones : Six Zone) : Option Int :=
  (zones.toList.map qualifyingError).foldl maxError none

/-- The drying call after a demand update (R38). -/
def nextCall (settings : Settings) (call : Bool) (largest : Option Int) : Bool :=
  match call, largest with
  | false, some e => decide (settings.callOn ≤ e)
  | false, none => false
  | true, some e => !decide (e ≤ settings.callOff)
  | true, none => false

/-! ### Demanded duty and openings (R39, R40) -/

/-- The cap of a mode that has one (R39). -/
def dutyCap (settings : Settings) : UnitMode → Option Nat
  | .run => some settings.runCap
  | .quiet => some settings.quietCap
  | _ => none

/-- The demanded duty (R39). -/
def dutyOf (settings : Settings) (mode : UnitMode) (active : Bool) (d : Nat) : Nat :=
  match dutyCap settings mode with
  | none => 0
  | some cap =>
    let base := if d = 0 then settings.idleDuty
      else ((settings.idleDuty : Int) + ((d : Int) * ((cap : Int) - settings.idleDuty)).tdiv 1000).toNat
    let floored := if active then max settings.coilMinimum base else base
    min cap floored

/-- The opening of a zone from its damper's entry (R40); `some zone` says that some zone has d > 0. -/
def openingOf (someZone : Bool) (z : Zone) (e : DamperEntry) : Nat :=
  if z.entry.enabled = false then 0
  else if someZone then e.bleed + z.d * (1000 - e.bleed) / 1000
  else e.rest

/-- A zone's opening and, for a fitted damper, its target in steps (R40). -/
def zoneOpening (someZone : Bool) (e : DamperEntry) (z : Zone) : Zone :=
  let opening := openingOf someZone z e
  { z with opening := opening, target := if e.fitted then some (opening * e.travel / 1000) else none }

/-! ### The demand update (R42, R43) -/

/-- The recompute of a demand update in the order of R42. -/
def recompute (mc : ModeControl) (dampers : Six Damper) (dmu : Demand) : Demand :=
  let demanded := dmu.zones.map (zoneDemands dmu.filterMissing dmu.dryingActive)
  let largest := largestOf demanded
  { dmu with
    zones := Six.tabulate fun i => zoneOpening (decide (0 < largest)) (dampers.get i).entry (demanded.get i)
    largest := largest
    call := nextCall mc.settings dmu.call (largestError demanded)
    demandedDuty := dutyOf mc.settings mc.mode dmu.dryingActive largest }

/-- The targets delivered in Run and Quiet: one for every fitted damper (R41). -/
def targetDeliveries (mode : UnitMode) (zones : Six Zone) : List Signal :=
  if runMode mode then
    Six.numbers.flatMap fun i => match (zones.get i).target with
      | some t => [.damperTarget i t]
      | none => []
  else []

/-- The deliveries at the end of a demand update (R43), given the unit before and after it. The drying call comes last
(log 7): what it sets off may trigger a further update, and every delivery of this update then stands before those of the
further one, so that each receiver is left with the latest. -/
def updateDeliveries (mode : UnitMode) (before dmu : Demand) : List Signal :=
  [.demandedDuty dmu.demandedDuty] ++ targetDeliveries mode dmu.zones
    ++ [.largestDemand dmu.largest] ++ (if before.call = dmu.call then [] else [.dryingCall dmu.call])

/-! ### Events on the zones' samples (R29 to R34) -/

/-- A zone names a node: its sensor node address is that address, and not 0. -/
def namesNode (address : Nat) (z : Zone) : Bool := z.entry.node == address && z.entry.node != 0

/-- Some zone names a node. -/
def anyNames (address : Nat) (zones : Six Zone) : Bool := zones.toList.any (namesNode address)

/-- An accepted reading in a zone (R30). -/
def zoneReading (address : Nat) (stamp : Word) (fields : Reading) (z : Zone) : Zone :=
  if namesNode address z then
    { z with
      sample := .fresh
      pm25 := fields.pm25
      rh := fields.rh
      temperature := fields.temperature
      lastAccept := some stamp
      holdExpiry := none }
  else z

/-- The hold expiry of a zone: its last accept time plus the hold time (R29, R31, R33). -/
def holdExpiryOf (holdTime : Nat) (z : Zone) : Option Word :=
  match z.lastAccept with
  | some t => some (after t (holdTime * 1000))
  | none => none

/-- A change of a node's state to Missing, Lost or Unknown in a zone (R31). A change to Live comes with its reading. -/
def zoneNodeState (holdTime : Nat) (now : Word) (address : Nat) (state : NodeState) (z : Zone) : Zone :=
  if namesNode address z ∧ z.sample = .fresh ∧ state ≠ .live then
    if withinHold holdTime now z.lastAccept then { z with sample := .held, holdExpiry := holdExpiryOf holdTime z }
    else { z with sample := .stale, holdExpiry := none }
  else z

/-- The hold-expiry timer of a zone expires (R32). -/
def zoneHoldExpiry (z : Zone) : Zone := { z with sample := .stale, holdExpiry := none }

/-- A load of the unit settings changed the hold time (R33). -/
def zoneRetime (holdTime : Nat) (now : Word) (z : Zone) : Zone :=
  if z.sample = .held then
    if withinHold holdTime now z.lastAccept then { z with holdExpiry := holdExpiryOf holdTime z }
    else { z with sample := .stale, holdExpiry := none }
  else z

/-- A Zone Line Reset in a zone (R34). -/
def zoneLineReset (z : Zone) : Zone :=
  if z.entry.node = 0 then z
  else { z with
    sample := .stale
    pm25 := none
    rh := none
    temperature := none
    lastAccept := none
    holdExpiry := none }

/-- The binding of a zone's runtime record to the sensor node address of its entry (R29). -/
def bindZone (holdTime : Nat) (now : Word) (record : Option NodeRecord) (z : Zone) : Zone :=
  let cleared := { z with pm25 := none, rh := none, temperature := none, lastAccept := none, holdExpiry := none }
  if z.entry.node = 0 then { cleared with sample := .noNode }
  else match record with
    | none => { cleared with sample := .stale }
    | some r =>
      let copied := { z with
        pm25 := r.last.pm25, rh := r.last.rh, temperature := r.last.temperature, lastAccept := r.lastAccept
        holdExpiry := none }
      match r.state with
      | .live => { copied with sample := .fresh }
      | .unknown => { cleared with sample := .stale }
      | _ =>
        if withinHold holdTime now r.lastAccept then { copied with sample := .held, holdExpiry := holdExpiryOf holdTime copied }
        else { copied with sample := .stale }

end Sys2Proof.Machine
end

