-- ==== Sys2Proof/Machine/Drying.lean ====
section
/-! DEFINITION. The Drying Sequencer (Chapter 7): starting, Airflow-Wait, Running and its stops, frost and defrost,
Tank-Hold, Lockout, and the service compressor. The coil minimum is read from the unit settings at each comparison
(R118), so it is an argument. -/
namespace Sys2Proof.Machine

/-- A compressor off (R117): the output goes off, the off timer starts afresh, and the timers that run only with the
compressor on are cancelled (Table 7-2, R126). -/
def compressorOff (ds : Sequencer) : Sequencer :=
  { ds with
    compressor := false
    service := false
    offLeft := some offTime
    onLeft := none
    graceLeft := none
    frostLeft := none }

/-- The coil temperature held is at or below +5 (R123, R127). -/
def coilCold (ds : Sequencer) : Bool :=
  match ds.coil with
  | some c => decide (c ≤ 5)
  | none => false

/-- Entry to Running (R123): the compressor goes on, which starts the on timer (R117); a cold coil starts the dwell. -/
def enterRunning (ds : Sequencer) : Sequencer :=
  { ds with
    state := .running
    compressor := true
    airflowWaitLeft := none
    onLeft := some onTime
    frostLeft := if coilCold ds then some frostTime else none }

/-- Entry to Airflow-Wait (R121): drying-active on is delivered, and with the applied duty at the coil minimum the DS
goes to Running at once. -/
def enterAirflowWait (coilMinimum : Nat) (ds : Sequencer) : Sequencer × List Signal :=
  let waiting := { ds with state := .airflowWait, airflowWaitLeft := some airflowWaitTime }
  (if coilMinimum ≤ ds.applied then enterRunning waiting else waiting, [.dryingActive true])

/-- The start conditions evaluated in Idle (R119). -/
def evaluateIdle (coilMinimum : Nat) (ds : Sequencer) : Sequencer × List Signal :=
  if startConditions ds then
    if ds.offLeft.isSome then ({ ds with state := .readyWait }, []) else enterAirflowWait coilMinimum ds
  else (ds, [])

/-- Entry to Idle from another state, where the start conditions are evaluated at once (R119); leaving drying-active is
delivered (R122). -/
def goIdle (coilMinimum : Nat) (ds : Sequencer) : Sequencer × List Signal :=
  let e := evaluateIdle coilMinimum { ds with state := .idle }
  (e.1, (if dryingStates ds.state then [.dryingActive false] else []) ++ e.2)

/-- Entry to Tank-Hold (R131). -/
def goTankHold (ds : Sequencer) : Sequencer × List Signal :=
  ({ ds with state := .tankHold }, if dryingStates ds.state then [.dryingActive false] else [])

/-- A running compressor stops with a cause (R124 to R126): for a blocked tank into Tank-Hold, else into Idle. -/
def stopRunning (coilMinimum : Nat) (cause : CompressorFinish) (ds : Sequencer) : Sequencer × List Signal :=
  let off := { compressorOff ds with finish := cause }
  if cause = .tankFull then goTankHold off else goIdle coilMinimum off

/-- The attempt in Airflow-Wait ends with a cause (R121). -/
def leaveAirflowWait (coilMinimum : Nat) (cause : CompressorFinish) (ds : Sequencer) : Sequencer × List Signal :=
  goIdle coilMinimum { ds with airflowWaitLeft := none, finish := cause }

/-- The cause of Table 7-4 for the start condition that failed (R121); a delivery makes only one fail (log 39). -/
def failedCondition (ds : Sequencer) : CompressorFinish :=
  if ds.tankBlocked then .tankFull
  else if ds.coil.isNone ∨ ds.nodeLost then .sensorLost
  else if restMode ds.mode then .mode
  else if ds.mode = .service then .service
  else if ds.faulted then .blowerFault
  else .satisfied

/-- The stop of Table 7-4 that a delivery makes in Running, other than the drying call off (R126). -/
def runningStop (ev : DsEvent) (ds : Sequencer) : Option CompressorFinish :=
  match ev with
  | .tank => if ds.tankBlocked then some .tankFull else none
  | .unitReading => if ds.coil.isNone then some .sensorLost else none
  | .unitLost => some .sensorLost
  | .lineReset => some .sensorLost
  | .mode => if restMode ds.mode then some .mode else if ds.mode = .service then some .service else none
  | .fault => if ds.faulted then some .blowerFault else none
  | _ => none

/-- The airflow grace follows a change of the applied duty while the compressor output is on (R125). -/
def watchGrace (coilMinimum : Nat) (ds : Sequencer) : Sequencer :=
  if ds.compressor then
    if ds.applied < coilMinimum then
      match ds.graceLeft with
      | some _ => ds
      | none => { ds with graceLeft := some graceTime }
    else { ds with graceLeft := none }
  else ds

/-- The frost dwell follows a unit reading in Running (R127). -/
def watchFrost (ds : Sequencer) : Sequencer :=
  if coilCold ds then
    match ds.frostLeft with
    | some _ => ds
    | none => { ds with frostLeft := some frostTime }
  else { ds with frostLeft := none }

/-- A delivery in Running (R124 to R127). -/
def deliverRunning (coilMinimum : Nat) (ev : DsEvent) (ds : Sequencer) : Sequencer × List Signal :=
  match runningStop ev ds with
  | some cause => stopRunning coilMinimum cause ds
  | none =>
    match ev with
    | .call => if ds.call = false ∧ ds.onLeft = none then stopRunning coilMinimum .satisfied ds else (ds, [])
    | .applied => (watchGrace coilMinimum ds, [])
    | .unitReading => (watchFrost ds, [])
    | _ => (ds, [])

/-- The end of a defrost (R128, R129): Tank-Hold while the tank held is blocked, else Idle. -/
def endDefrost (coilMinimum : Nat) (ds : Sequencer) : Sequencer × List Signal :=
  let ended := { ds with defrostLeft := none }
  if ds.tankBlocked then goTankHold ended else goIdle coilMinimum ended

/-- A delivery in Defrost (R128, R130). -/
def deliverDefrost (coilMinimum : Nat) (ev : DsEvent) (ds : Sequencer) : Sequencer × List Signal :=
  let stopped := goIdle coilMinimum { ds with defrostLeft := none }
  match ev with
  | .mode => if runMode ds.mode then (ds, []) else stopped
  | .unitLost => stopped
  | .lineReset => stopped
  | .fault => if ds.faulted then stopped else (ds, [])
  | .unitReading =>
    match ds.coil with
    | none => stopped
    | some c => if 50 ≤ c then endDefrost coilMinimum { ds with timeouts := 0 } else (ds, [])
  | _ => (ds, [])

/-- A delivery while the service compressor is on (R133). -/
def deliverService (coilMinimum : Nat) (ev : DsEvent) (ds : Sequencer) : Sequencer × List Signal :=
  match ev with
  | .tank => if ds.tankBlocked then goTankHold { compressorOff ds with finish := .tankFull } else (ds, [])
  | .fault =>
    if ds.faulted then evaluateIdle coilMinimum { compressorOff ds with finish := .blowerFault } else (ds, [])
  | .mode =>
    if ds.mode = .service then (ds, []) else evaluateIdle coilMinimum { compressorOff ds with finish := .service }
  | .applied => (watchGrace coilMinimum ds, [])
  | _ => (ds, [])

/-- A delivery of an input, the input already held (R118 to R133), by state. -/
def dsDeliver (coilMinimum : Nat) (ev : DsEvent) (ds : Sequencer) : Sequencer × List Signal :=
  match ds.state with
  | .idle => if ds.service then deliverService coilMinimum ev ds else evaluateIdle coilMinimum ds
  | .readyWait => if startConditions ds then (ds, []) else goIdle coilMinimum ds
  | .airflowWait =>
    if startConditions ds then
      if ev = .applied ∧ coilMinimum ≤ ds.applied then (enterRunning ds, []) else (ds, [])
    else leaveAirflowWait coilMinimum (failedCondition ds) ds
  | .running => deliverRunning coilMinimum ev ds
  | .defrost => deliverDefrost coilMinimum ev ds
  | .tankHold => if ev = .tank ∧ ds.tankBlocked = false then goIdle coilMinimum ds else (ds, [])
  | .lockout => (ds, [])

/-! ### Timers -/

/-- The off timer expires (R119, R120). -/
def offExpiry (coilMinimum : Nat) (ds : Sequencer) : Sequencer × List Signal :=
  match ds.offLeft with
  | none => (ds, [])
  | some _ =>
    let ended := { ds with offLeft := none }
    match ds.state with
    | .readyWait => enterAirflowWait coilMinimum ended
    | .idle => if ds.service then (ended, []) else evaluateIdle coilMinimum ended
    | _ => (ended, [])

/-- The on timer expires (R124): with the call off the compressor stops as Satisfied. -/
def onExpiry (coilMinimum : Nat) (ds : Sequencer) : Sequencer × List Signal :=
  match ds.onLeft with
  | none => (ds, [])
  | some _ =>
    let ended := { ds with onLeft := none }
    if ds.state = .running ∧ ds.call = false then stopRunning coilMinimum .satisfied ended else (ended, [])

/-- The airflow wait expires (R121): the attempt is given up and the off timer starts. -/
def waitExpiry (coilMinimum : Nat) (ds : Sequencer) : Sequencer × List Signal :=
  match ds.airflowWaitLeft with
  | none => (ds, [])
  | some _ =>
    if ds.state = .airflowWait then leaveAirflowWait coilMinimum .airflowLow { ds with offLeft := some offTime }
    else ({ ds with airflowWaitLeft := none }, [])

/-- The airflow grace expires (R125, R133). -/
def graceExpiry (coilMinimum : Nat) (ds : Sequencer) : Sequencer × List Signal :=
  match ds.graceLeft with
  | none => (ds, [])
  | some _ =>
    if ds.state = .running then stopRunning coilMinimum .airflowLow ds
    else if ds.compressor then ({ compressorOff ds with finish := .airflowLow }, [])
    else ({ ds with graceLeft := none }, [])

/-- The frost dwell expires (R127): the DS enters Defrost (R128). -/
def frostExpiry (ds : Sequencer) : Sequencer × List Signal :=
  match ds.frostLeft with
  | none => (ds, [])
  | some _ =>
    if ds.state = .running then
      ({ compressorOff ds with state := .defrost, finish := .frost, defrostLeft := some defrostTime },
        [.notice .defrostStart none])
    else ({ ds with frostLeft := none }, [])

/-- The defrost max expires (R129). -/
def defrostExpiry (coilMinimum : Nat) (ds : Sequencer) : Sequencer × List Signal :=
  match ds.defrostLeft with
  | none => (ds, [])
  | some _ =>
    if ds.state = .defrost then
      let counted := { ds with timeouts := ds.timeouts + 1 }
      if 3 ≤ counted.timeouts then
        ({ counted with state := .lockout, defrostLeft := none }, [.notice .compressorLockout none, .dryingActive false])
      else endDefrost coilMinimum counted
    else ({ ds with defrostLeft := none }, [])

/-! ### Requests and settings -/

/-- A load of the unit settings changed the coil minimum (R125). -/
def coilMinimumLoaded (before new : Nat) (ds : Sequencer) : Sequencer := if before = new then ds else watchGrace new ds

/-- Clear Lockout taken in Off (R132). -/
def clearLockout (coilMinimum : Nat) (ds : Sequencer) : Sequencer × List Signal :=
  if ds.state = .lockout then goIdle coilMinimum { ds with timeouts := 0 } else (ds, [])

/-- The DS refuses a service compressor start (R133). -/
def refusesCompressor (coilMinimum : Nat) (ds : Sequencer) : Bool :=
  ds.tankBlocked || ds.offLeft.isSome || decide (ds.applied < coilMinimum) || ds.state == .lockout

/-- Service Drive asks for the compressor on (R133, R154). -/
def serviceOn (ds : Sequencer) : Sequencer := if ds.service then ds else { ds with service := true, compressor := true }

/-- Service Drive asks for the compressor off (R133, R154). -/
def serviceOff (ds : Sequencer) : Sequencer :=
  if ds.service then { compressorOff ds with finish := .service } else ds

end Sys2Proof.Machine
end

