-- ==== Sys2Proof/Machine/Dose.lean ====
section
/-! DEFINITION. The Dose Unit (Chapter 5): the computation of R89 on one unit reading, step by step. All arithmetic is on
unbounded integers; the manual's widths are never exceeded (section 5.1). -/
namespace Sys2Proof.Machine

/-- The divisor of R98: the milliseconds of an hour times the 1000 of the permille efficiency. -/
abbrev doseDivisor : Nat := 3600000000

/-- The largest dose (R98). -/
abbrev doseCeiling : Nat := 4294967295

/-- The speed S (R90): 0 in Off and Standby, else the blower's speed clamped to 0..4000. -/
def doseSpeed (mode : UnitMode) (speed : Nat) : Nat := if restMode mode then 0 else min 4000 speed

/-- The free airflow Qf at speed S on a fan curve (R91). -/
def freeAirflow (curve : List Nat) (s : Nat) : Nat :=
  let i := s / 250
  let f := s % 250
  if 16 ≤ i then curve.getD 16 0
  else
    let a : Int := curve.getD i 0
    let b : Int := curve.getD (i + 1) 0
    (a + ((b - a) * f).tdiv 250).toNat

/-- The restriction r of a pressure drop under the fine class (R94). -/
def restriction (fine : FilterClass) : Option Nat → Nat
  | none => 0
  | some dp => min 800 ((dp - fine.clean) * fine.slope / 16)

/-- The airflow Q (R94). -/
def airflow (qf r : Nat) : Nat := qf * (1000 - r) / 1000

/-- The interval Δt between two stamps before any clamp (R96). -/
def rawInterval (previous : Option Word) (stamp : Word) : Nat :=
  match previous with
  | some t => elapsed t stamp
  | none => 0

/-- The fine fraction Cf (R97). -/
def fineFraction (pm25 : Option Nat) : Nat := pm25.getD 0

/-- The coarse fraction Cc (R97). -/
def coarseFraction (pm25 pm10 : Option Nat) : Nat :=
  match pm10, pm25 with
  | some b, some a => b - a
  | _, _ => 0

/-- The input C2 of the fine stage (R97). -/
def fineInput (cf cc preEfficiency : Nat) : Nat := cf + cc * (1000 - preEfficiency) / 1000

/-- The capture of one stage (R98). -/
def capture (c q dt : Nat) (cls : FilterClass) (r : StageRecord) : StageRecord :=
  let t := c * q * dt * cls.efficiency + r.remainder
  { r with
    dose := min doseCeiling (r.dose + t / doseDivisor)
    remainder := t % doseDivisor }

/-- The dose life of a stage (R99). -/
def doseLife (cls : FilterClass) (dose : Nat) : Nat := min 1999 (dose / cls.capacity)

/-- The pressure life Lp of a pressure drop (R100). -/
def pressureLife (cls : FilterClass) (dp : Nat) : Nat :=
  if dp ≤ cls.clean then 0 else min 1999 ((dp - cls.clean) * 1000 / (cls.worn - cls.clean))

/-- The held pressure life of stage 2 after a reading (R100). -/
def heldPressure (cls : FilterClass) (s : Nat) (dp : Option Nat) (r : StageRecord) : Nat :=
  match dp with
  | some p => if cls.reference ≤ s ∧ r.state ≠ .missing then max r.held (pressureLife cls p) else r.held
  | none => r.held

/-- What the Dose Unit hands to the Filter Stage records (R89): S, and the two stage records with the dose, remainder,
held pressure life and life it has written. -/
structure DoseResult where
  dose : Dose
  speed : Nat
  pre : StageRecord
  fine : StageRecord

/-- The dose computation of one unit reading (R89 to R102). -/
def doseReading (mode : UnitMode) (speed : Nat) (fs : Filters) (stamp : Word) (fields : Reading) (du : Dose) : DoseResult :=
  let preClass := fs.classes.get fs.pre.number
  let fineClass := fs.classes.get fs.fine.number
  let s := doseSpeed mode speed
  let qf := if restMode mode then 0 else freeAirflow du.curve s
  let r := if restMode mode then 0 else restriction fineClass fields.pressure
  let q := airflow qf r
  let raw := rawInterval du.previousStamp stamp
  let dt := min 10000 raw
  let cf := fineFraction fields.pm25
  let cc := coarseFraction fields.pm25 fields.pm10
  let pre := capture cc q dt preClass fs.pre
  let fine := if fs.fine.state = .missing then fs.fine
    else capture (fineInput cf cc preClass.efficiency) q dt fineClass fs.fine
  let held := heldPressure fineClass s fields.pressure fs.fine
  { dose := { du with
      previousStamp := some stamp
      gaps := if 10000 < raw then du.gaps + 1#16 else du.gaps
      airflow := some ⟨stamp, s, qf, r, q, dt, decide (10000 < raw)⟩ }
    speed := s
    pre := { pre with life := max (doseLife preClass pre.dose) pre.life }
    fine := { fine with
      held := held
      life := max (max (doseLife fineClass fine.dose) held) fine.life } }

/-- The previous stamp becomes absent (R95): the unit node became Lost, or the zone line was reset. -/
def clearStamp (du : Dose) : Dose := { du with previousStamp := none }

end Sys2Proof.Machine
end

