-- ==== Sys2Proof/Machine/Filter.lean ====
section
/-! DEFINITION. The Filter Stage records (Chapter 6): the handling of a unit reading after the dose computation, the
missing-filter detection, stage states, checkpoints, Filter Replaced, and the restore from the store. -/
namespace Sys2Proof.Machine

/-- The subject of a notice about a stage: 1 for the pre stage, 2 for the fine stage. -/
def stageSubject (fine : Bool) : Option Byte := if fine then some 2#8 else some 1#8

/-- A checkpoint of a stage is queued (R112): at that instant the checkpoint life takes the life and the unsaved flag
becomes no. -/
def checkpointStage (fine : Bool) (r : StageRecord) : StageRecord × List Signal :=
  ({ r with checkpointLife := r.life, unsaved := false }, [.checkpoint (stageItem fine r)])

/-- A reading counts toward absence (R108). -/
def suggestsAbsent (cls : FilterClass) (s : Nat) : Option Nat → Bool
  | some dp => decide (cls.reference ≤ s) && decide (dp < cls.absent)
  | none => false

/-- A reading counts toward presence (R109). -/
def suggestsPresent (cls : FilterClass) (s : Nat) : Option Nat → Bool
  | some dp => decide (cls.reference ≤ s) && decide (cls.absent + 10 ≤ dp)
  | none => false

/-- Step 1 of R106: the missing-filter detection of stage 2 (R108, R109), on the record the Dose Unit left. A clearing
leaves the state to be derived at step 2: until then the stage holds Fresh, a state other than Missing that no move of
R107 starts from with a notice withheld. The DMU hears of the clearing after that (`clearingDelivery`). -/
def detectMissing (cls : FilterClass) (s : Nat) (dp : Option Nat) (r : StageRecord) : StageRecord × List Signal :=
  if r.state = .missing then
    if suggestsPresent cls s dp then
      if 3 ≤ r.presentCount + 1 then
        ({ r with absentCount := 0, presentCount := 0, unsaved := true, state := .fresh }, [])
      else ({ r with presentCount := r.presentCount + 1 }, [])
    else ({ r with presentCount := 0 }, [])
  else
    if suggestsAbsent cls s dp then
      if 3 ≤ r.absentCount + 1 then
        ({ r with absentCount := 0, presentCount := 0, unsaved := true, state := .missing },
          [.notice .filterMissing (some 2#8), .filterMissing true])
      else ({ r with absentCount := r.absentCount + 1 }, [])
    else ({ r with absentCount := 0 }, [])

/-- Step 2 of R106: the state is derived from the life (R107); a move into Due or Worn posts its notice. The flag says
whether the move queues a checkpoint. -/
def deriveState (fine : Bool) (cls : FilterClass) (r : StageRecord) : StageRecord × List Signal × Bool :=
  if r.state = .missing then (r, [], false)
  else
    let new := stageStateOf r.life cls.due
    if new = r.state then (r, [], false)
    else match new with
      | .due => ({ r with state := .due }, [.notice .filterDue (stageSubject fine)], true)
      | .worn => ({ r with state := .worn }, [.notice .filterWorn (stageSubject fine)], true)
      | _ => ({ r with state := new }, [], false)

/-- The delivery to the DMU that Missing has cleared (R109, act 4): it follows the notice that the derived state gives at
step 2 (act 3), for a stage found Missing at step 1 that is so no more. -/
def clearingDelivery (before after : StageRecord) : List Signal :=
  if before.state = .missing ∧ after.state ≠ .missing then [.filterMissing false] else []

/-- Step 3 of R106: the checkpoint decision of R112. One event that meets two triggers queues one checkpoint. -/
def decideCheckpoint (fine moved : Bool) (r : StageRecord) : StageRecord × List Signal :=
  if moved ∨ r.checkpointLife + 10 ≤ r.life then checkpointStage fine r else (r, [])

/-- The unsaved flag becomes yes whenever the handling changes the dose, held pressure life, life or state (R106). -/
def markUnsaved (before r : StageRecord) : StageRecord :=
  if before.dose = r.dose ∧ before.held = r.held ∧ before.life = r.life ∧ before.state = r.state then r
  else { r with unsaved := true }

/-- The handling of one unit reading by DU and FS as one (R89, R106). -/
def stageReading (mode : UnitMode) (speed : Nat) (stamp : Word) (fields : Reading) (du : Dose) (fs : Filters) :
    Dose × Filters × List Signal :=
  let res := doseReading mode speed fs stamp fields du
  let fineClass := fs.classes.get fs.fine.number
  let preClass := fs.classes.get fs.pre.number
  let detected := detectMissing fineClass res.speed fields.pressure res.fine
  let preState := deriveState false preClass res.pre
  let fineState := deriveState true fineClass detected.1
  let pre := decideCheckpoint false preState.2.2 (markUnsaved fs.pre preState.1)
  let fine := decideCheckpoint true fineState.2.2 (markUnsaved fs.fine fineState.1)
  (res.dose, { fs with pre := pre.1, fine := fine.1 },
    detected.2 ++ preState.2.1 ++ fineState.2.1 ++ clearingDelivery fs.fine fineState.1 ++ pre.2 ++ fine.2)

/-- Both counts of stage 2 become 0 (R110). -/
def clearCounts (fs : Filters) : Filters :=
  { fs with fine := { fs.fine with absentCount := 0, presentCount := 0 } }

/-- A mode change into Off or Standby queues a checkpoint of each stage whose unsaved flag is yes (R112). -/
def filtersMode (new : UnitMode) (fs : Filters) : Filters × List Signal :=
  if restMode new then
    let pre := if fs.pre.unsaved then checkpointStage false fs.pre else (fs.pre, [])
    let fine := if fs.fine.unsaved then checkpointStage true fs.fine else (fs.fine, [])
    ({ fs with pre := pre.1, fine := fine.1 }, pre.2 ++ fine.2)
  else (fs, [])

/-- The account of a new element (R111). -/
def newAccount (number : Fin 4) (stamp : Word) : StageRecord :=
  { number := number, dose := 0, remainder := 0, held := 0, life := 0, state := .fresh, restored := true
    checkpointLife := 0, stamp := stamp, unsaved := false, absentCount := 0, presentCount := 0 }

/-- Filter Replaced on a stage (R111): a new account, its checkpoint, and the clearing of Missing told to the DMU. -/
def replaceFilter (fine : Bool) (number : Fin 4) (stamp : Word) (fs : Filters) : Filters × List Signal :=
  let account := checkpointStage fine (newAccount number stamp)
  if fine then
    ({ fs with fine := account.1 }, account.2 ++ (if fs.fine.state = .missing then [.filterMissing false] else []))
  else ({ fs with pre := account.1 }, account.2)

/-- The ranges of Table 6-1 as step 2 of R103 tests them. -/
def classInRange (c : FilterClass) : Bool :=
  decide (1 ≤ c.capacity) && decide (1 ≤ c.efficiency) && decide (c.efficiency ≤ 1000) && decide (c.clean ≤ 600)
    && decide (c.clean + 20 ≤ c.worn) && decide (c.worn ≤ 1000) && decide (c.absent ≤ c.clean)
    && decide (c.reference ≤ 4000) && decide (500 ≤ c.due) && decide (c.due ≤ 999)

/-- The class that fifteen octets give (Table 11-10). -/
def classOf : List Byte → Option FilterClass
  | [c1, c0, e1, e0, l1, l0, w1, w0, a1, a0, s, r1, r0, d1, d0] =>
    some ⟨(half c1 c0).toNat, (half e1 e0).toNat, (half l1 l0).toNat, (half w1 w0).toNat, (half a1 a0).toNat, s.toNat,
      (half r1 r0).toNat, (half d1 d0).toNat⟩
  | _ => none

/-- The fan curve of the factory record FV, or the built-in one (R93). -/
def restoreCurve (cells : List Host.Cell) : List Nat :=
  match recordAt cells 64 0x46#8 0x56#8 17 with
  | some data =>
    let points := (List.range 17).map fun j => (half (data.getD (2 * j) 0#8) (data.getD (2 * j + 1) 0#8)).toNat
    if points.all (fun p => decide (p ≤ 1500)) then points else builtInCurve
  | none => builtInCurve

/-- The filter classes of the factory record FC, or the built-in ones (R104). -/
def restoreClasses (cells : List Host.Cell) : Quad FilterClass :=
  match recordAt cells 128 0x46#8 0x43#8 30 with
  | some data =>
    match classOf (data.take 15), classOf ((data.drop 15).take 15), classOf ((data.drop 30).take 15),
      classOf ((data.drop 45).take 15) with
    | some a, some b, some c, some d =>
      if classInRange a ∧ classInRange b ∧ classInRange c ∧ classInRange d then ⟨a, b, c, d⟩ else Quad.all builtInClass
    | _, _, _, _ => Quad.all builtInClass
  | none => Quad.all builtInClass

/-- The run-hour count of the record BH, or 0 (R65). -/
def restoreRunHours (cells : List Host.Cell) : Nat :=
  match recordAt cells 320 0x42#8 0x48#8 2 with
  | some [a, b, c, d] => (word a b c d).toNat
  | _ => 0

/-- A restored stage record is taken (R113, R114), or an account is started from nothing and the notice posted (R115).
The flags octet gives restored in bit 0 and Missing in bit 1 (Table 11-10; the other bits: log 29). -/
def restoreStage (fine : Bool) (classes : Quad FilterClass) (cells : List Host.Cell) : StageRecord × List Signal :=
  let lost : StageRecord × List Signal := (StageRecord.fromNothing, [.notice .filterRecordLost (stageSubject fine)])
  let found := if fine then recordAt cells 288 0x46#8 0x32#8 7 else recordAt cells 256 0x46#8 0x31#8 7
  match found with
  | some [c, d3, d2, d1, d0, h1, h0, l1, l0, flags, s3, s2, s1, s0] =>
    let held := (half h1 h0).toNat
    let life := (half l1 l0).toNat
    let missing := flags.getLsbD 1
    if h : c.toNat < 4 then
      if held ≤ 1999 ∧ life ≤ 1999 ∧ (fine = true ∨ missing = false) then
        ({ number := ⟨c.toNat, h⟩
           dose := (word d3 d2 d1 d0).toNat
           remainder := 0
           held := held
           life := life
           state := if missing then .missing else stageStateOf life (classes.get ⟨c.toNat, h⟩).due
           restored := flags.getLsbD 0
           checkpointLife := life
           stamp := word s3 s2 s1 s0
           unsaved := false
           absentCount := 0
           presentCount := 0 },
          if missing then [.filterMissing true] else [])
      else lost
    else lost
  | _ => lost

/-- A stage after Restart (R116): counts 0, and a stage not in Missing derives its state again; a move posts nothing and
sets the unsaved flag. -/
def restartStage (classes : Quad FilterClass) (r : StageRecord) : StageRecord :=
  let cleared := { r with absentCount := 0, presentCount := 0 }
  if r.state = .missing then cleared
  else
    let new := stageStateOf r.life (classes.get r.number).due
    if new = r.state then cleared else { cleared with state := new, unsaved := true }

end Sys2Proof.Machine
end

