-- ==== Sys2Proof/Machine/Intake.lean ====
section
/-! DEFINITION. The Intake Unit (Chapter 1): cycles and Node Messages on the zone line, the answer period, validation
and acceptance of readings, node liveness, polarity acquisition, and the changes requests and mode changes make to the
intake state. Every function here changes the Intake Unit alone and answers what it delivers. -/
namespace Sys2Proof.Machine

/-! ### Node records -/

/-- The record of an address (R4: there may be none). -/
def findNode (address : Nat) : List NodeRecord → Option NodeRecord
  | [] => none
  | r :: rest => if r.address = address then some r else findNode address rest

/-- Change the record of an address. -/
def updateNode (address : Nat) (f : NodeRecord → NodeRecord) : List NodeRecord → List NodeRecord
  | [] => []
  | r :: rest => if r.address = address then f r :: rest else r :: updateNode address f rest

/-- The state the Intake Unit reports of an address: a node without a record is Lost (R4). -/
def reportedState (address : Nat) (nodes : List NodeRecord) : NodeState :=
  match findNode address nodes with
  | some r => r.state
  | none => .lost

/-! ### Polarity (R1, R15, R16) -/

/-- The other polarity. -/
def flipPolarity : Polarity → Polarity
  | .normal => .inverted
  | .inverted => .normal

/-- An octet as it is inspected, or as it leaves the pin: complemented while the polarity is Inverted (R1). -/
def corrected (p : Polarity) (o : Byte) : Byte := if p = .inverted then ~~~o else o

/-- The octets of the frame in transmission as they left the pin when the first `n` of them have begun: those that now
begin leave it in the polarity in force, and those that began before stay as they left it (R1, R16). -/
def beginOctets (n : Nat) (iu : Intake) : List Byte :=
  iu.onWire ++ ((iu.sending.take n).drop iu.onWire.length).map (corrected iu.polarity)

/-- Begin the transmission of a frame with its first octet, `lead` (R1, R16). -/
def beginFrame (lead : Byte) (frame : List Byte) (iu : Intake) : Intake :=
  { iu with sending := frame, onWire := [corrected iu.polarity lead] }

/-- Nothing is in transmission on the zone line. -/
def endFrame (iu : Intake) : Intake := { iu with sending := [], onWire := [] }

/-- The octets that the zone line carries for the Poll or Node Message in transmission while the polarity stays as it is:
those that have begun as they left the pin, and the rest in the polarity in force (R1, R16). -/
def lineOctets (iu : Intake) : List Byte :=
  iu.onWire ++ (iu.sending.drop iu.onWire.length).map (corrected iu.polarity)

/-! ### Cycles and Node Messages (R5, R7, R21) -/

/-- The cycle end (R7): the live counters are copied to the snapshot, the cycle number increases, the line is free. -/
def endCycle (iu : Intake) : Intake :=
  endFrame { iu with snapshot := iu.live, cycleNumber := iu.cycleNumber + 1#16, phase := .idle }

/-- Transmit the Poll of entry `k` (R7 step 1). -/
def sendPoll (k address : Nat) (iu : Intake) : Intake :=
  beginFrame 0x70#8 (pollFrame address) { iu with phase := .poll k (zoneLineTime 4) }

/-- Start a cycle now (R5): the start time is recorded and the next one set; a cycle over an empty poll list ends at
once. -/
def startCycle (interval : Nat) (iu : Intake) : Intake :=
  let timed := { iu with
    lastStart := some iu.timeBase
    nextStart := some (after iu.timeBase interval)
    startDue := false }
  match iu.pollList with
  | [] => endCycle timed
  | e :: _ => sendPoll 0 e.address timed

/-- Begin the transmission of the Node Message at the front of the down queue (R20, R21); it stays in the queue until
its last octet has gone. -/
def startMessage (iu : Intake) : Intake :=
  match iu.down with
  | [] => iu
  | m :: _ =>
    let frame := messageFrame m.address m.data
    beginFrame 0x74#8 frame { iu with phase := .message (zoneLineTime frame.length) }

/-- The line is free now (R5, R21): a cycle whose start time has been reached begins; otherwise a waiting Node Message
does. `interval` is absent where no cycles run. -/
def useFreeLine (interval : Option Nat) (iu : Intake) : Intake :=
  if iu.phase = .idle then
    let begun := match interval, iu.startDue with
      | some ms, true => startCycle ms iu
      | _, _ => iu
    if begun.phase = .idle ∧ begun.startDue = false then startMessage begun else begun
  else iu

/-- The next start time is reached (R5): with the line free a cycle starts. -/
def cycleStartReached (interval : Option Nat) (iu : Intake) : Intake :=
  match interval, iu.phase with
  | some ms, .idle => useFreeLine interval (startCycle ms iu)
  | _, _ => iu

/-- The last octet of a Poll has gone: the answer period opens (R7 step 2, R8). -/
def pollSent (iu : Intake) : Intake :=
  match iu.phase with
  | .poll k _ => endFrame { iu with phase := .answer k ⟨.hunting, false, some answerWindow, none⟩ }
  | _ => iu

/-- The gap after an answer period ends (R7): the next entry is polled, or the cycle ends and the line is free. -/
def gapEnd (interval : Option Nat) (iu : Intake) : Intake :=
  match iu.phase with
  | .gap k _ =>
    match iu.pollList[k + 1]? with
    | some e => sendPoll (k + 1) e.address iu
    | none => useFreeLine interval (endCycle iu)
  | _ => iu

/-- The Node Message at the front may begin (R21). -/
def messageMayStart (iu : Intake) : Intake :=
  if iu.phase = .idle ∧ iu.startDue = false then startMessage iu else iu

/-- The last octet of a Node Message has gone (R20, R21): it leaves the queue and the 5 ms wait begins. -/
def messageEnd (iu : Intake) : Intake :=
  match iu.phase with
  | .message _ => endFrame { iu with down := iu.down.tail, phase := .messageWait messageWait }
  | _ => iu

/-- The wait after a Node Message ends (R21). -/
def messageWaitEnd (interval : Option Nat) (iu : Intake) : Intake :=
  match iu.phase with
  | .messageWait _ => useFreeLine interval { iu with phase := .idle }
  | _ => iu

/-! ### The answer period (R8 to R15) -/

/-- How an answer period closes (R8, R9). -/
inductive PeriodOutcome where
  | noFrame
  | checkFail
  | stray
  | duplicate
  | accepted (stamp : Word) (sequence : Byte) (fields : Reading) (mismatch : Bool)
deriving DecidableEq, Repr

/-- Table 1-3: what the Intake Unit takes from an accepted frame, and whether FormMismatch is counted. -/
def takeForm (form : NodeForm) (long : Bool) (r : Reading) : Reading × Bool :=
  match form, long with
  | .either, _ => (r, false)
  | .short, false => (r, false)
  | .short, true => (asShort r, true)
  | .long, true => (r, false)
  | .long, false => (r, true)

/-- The validation of a completed frame in the order of R9, against the record of the entry being polled. -/
def validateFrame (address : Nat) (record : Option NodeRecord) (stamp : Word) (octets : List Byte) : PeriodOutcome :=
  if checkHolds octets = false then .checkFail
  else if (octets.getD 1 0#8).toNat ≠ address then .stray
  else
    let sequence := octets.getD 2 0#8
    let form := match record with
      | some r => r.form
      | none => .either
    if (record.bind NodeRecord.lastSequence) = some sequence then .duplicate
    else match readingOfFrame octets with
      | some r =>
        let taken := takeForm form (octets.getD 0 0#8 == 0x72#8) r
        .accepted stamp sequence taken.1 taken.2
      | none => .noFrame

/-- The record update of an accepted reading (R12). An injected reading leaves the last sequence (R23): `sequence` is
then absent. -/
def acceptInto (stamp : Word) (sequence : Option Byte) (fields : Reading) (r : NodeRecord) : NodeRecord :=
  { r with
    last := fields
    lastSequence := match sequence with
      | some q => some q
      | none => r.lastSequence
    lastAccept := some stamp
    accepted := r.accepted + 1#32
    misses := 0
    state := .live }

/-- The record after an answer period that closed without an accepted reading (R14, Table 1-4). -/
def missInto (r : NodeRecord) : NodeRecord :=
  let misses := min 3 (r.misses + 1)
  { r with misses := misses, state := if misses = 3 then .lost else .missing }

/-- The liveness part of a close (R12, R14) on the polled address, and what it delivers (R13): the accepted reading, or
the change of the node's state, which for the unit node's change to Lost also goes to DU, FS and DS. -/
def settleLiveness (unitNode address : Nat) (o : PeriodOutcome) (iu : Intake) : Intake × List Signal :=
  match findNode address iu.nodes with
  | none => (iu, [])
  | some r =>
    match o with
    | .accepted stamp sequence fields _ =>
      ({ iu with nodes := updateNode address (acceptInto stamp (some sequence) fields) iu.nodes },
        (if r.state = .lost then [.notice .nodeBack (some (octet address))] else [])
          ++ [.reading address stamp (some sequence) fields])
    | _ =>
      let missed := missInto r
      ({ iu with nodes := updateNode address missInto iu.nodes },
        if missed.state = r.state then []
        else (if missed.state = .lost then [.notice .nodeLost (some (octet address))] else [])
          ++ [.nodeState address missed.state]
          ++ (if missed.state = .lost ∧ address = unitNode then [.unitState .lost] else []))

/-- The polarity part of a close (R15): acquisition takes part only while the setting is Auto. -/
def settlePolarity (setting : PolaritySetting) (heard : Bool) (o : PeriodOutcome) (iu : Intake) : Intake × List Signal :=
  if setting = .auto then
    match o with
    | .accepted _ _ _ _ => ({ iu with badWindows := 0 }, [])
    | .duplicate => ({ iu with badWindows := 0 }, [])
    | _ =>
      if heard then
        if 6 ≤ iu.badWindows + 1 then
          ({ iu with
              polarity := flipPolarity iu.polarity
              badWindows := 0
              live := { iu.live with polarityFlips := iu.live.polarityFlips + 1#16 } },
            [.notice .polarityChanged none])
        else ({ iu with badWindows := iu.badWindows + 1 }, [])
      else (iu, [])
  else (iu, [])

/-- The counters part of a close (Table 1-5). -/
def countOutcome (o : PeriodOutcome) (c : IntakeCounters) : IntakeCounters :=
  match o with
  | .noFrame => { c with timeout := c.timeout + 1#16 }
  | .checkFail => { c with checkFail := c.checkFail + 1#16 }
  | .stray => { c with stray := c.stray + 1#16 }
  | .duplicate => { c with duplicate := c.duplicate + 1#16 }
  | .accepted _ _ _ mismatch =>
    { c with
      accepted := c.accepted + 1#16
      formMismatch := if mismatch then c.formMismatch + 1#16 else c.formMismatch }

/-- Close the answer period of entry `k` (R8): liveness, polarity count and counters are settled once, and the gap
begins. -/
def closePeriod (settings : Settings) (k : Nat) (heard : Bool) (o : PeriodOutcome) (iu : Intake) : Intake × List Signal :=
  let address := match iu.pollList[k]? with
    | some e => e.address
    | none => 0
  let l := settleLiveness settings.nodeAddress address o iu
  let p := settlePolarity settings.polarity heard o l.1
  ({ p.1 with live := countOutcome o p.1.live, phase := .gap k answerGap }, l.2 ++ p.2)

/-- The octets a lead calls for: 12 for 71h, 20 for 72h (R8). -/
def frameLength (octets : List Byte) : Nat := if octets.getD 0 0#8 = 0x72#8 then 20 else 12

/-- An octet arrives on the zone line (R1, R8). -/
def zoneOctet (settings : Settings) (raw : Byte) (iu : Intake) : Intake × List Signal :=
  match iu.phase with
  | .answer k p =>
    let o := corrected iu.polarity raw
    match p.hunt with
    | .hunting =>
      if o = 0x71#8 ∨ o = 0x72#8 then
        ({ iu with phase := .answer k { p with hunt := .assembling iu.timeBase [o], heard := true, frameLeft := some frameTimer } }, [])
      else ({ iu with phase := .answer k { p with heard := true } }, [])
    | .assembling stamp octets =>
      let now := octets ++ [o]
      if frameLength now ≤ now.length then
        let address := match iu.pollList[k]? with
          | some e => e.address
          | none => 0
        closePeriod settings k true (validateFrame address (findNode address iu.nodes) stamp now) iu
      else ({ iu with phase := .answer k { p with hunt := .assembling stamp now } }, [])
  | _ => (iu, [])

/-- The answer window expires (R8): while hunting the period closes with no frame; while assembling it stays open. -/
def windowExpiry (settings : Settings) (iu : Intake) : Intake × List Signal :=
  match iu.phase with
  | .answer k p =>
    match p.windowLeft, p.hunt with
    | some _, .hunting => closePeriod settings k p.heard .noFrame iu
    | some _, .assembling _ _ => ({ iu with phase := .answer k { p with windowLeft := none } }, [])
    | none, _ => (iu, [])
  | _ => (iu, [])

/-- The frame timer expires (R8): the incomplete frame is discarded and the period closes. -/
def frameExpiry (settings : Settings) (iu : Intake) : Intake × List Signal :=
  match iu.phase with
  | .answer k p =>
    match p.frameLeft, p.hunt with
    | some _, .assembling _ _ => closePeriod settings k true .noFrame iu
    | _, _ => (iu, [])
  | _ => (iu, [])

/-! ### Modes, settings, loads and the reset of the line -/

/-- A mode or source change re-times the next cycle (R6). `old` and `new` are the cycle intervals before and after. A
cycle that is owed as soon as the line is free, after Service with source Inject or a Load Poll List, and has not begun when
the unit changes between two modes that poll is re-timed like any other next cycle: its start is no longer owed unless the
re-timed start has passed. The manual does not say which of the two holds; this is the model's choice (log 36). -/
def retime (old new : Option Nat) (iu : Intake) : Intake :=
  match old, new with
  | _, none => useFreeLine none { iu with nextStart := none, startDue := false }
  | none, some ms => useFreeLine (some ms) { iu with startDue := true }
  | some _, some ms =>
    match iu.lastStart with
    | some t => useFreeLine (some ms) { iu with
        nextStart := some (after t ms)
        startDue := decide (ms ≤ elapsed t iu.timeBase) }
    | none => useFreeLine (some ms) { iu with startDue := true }

/-- A load of the unit settings changed the polarity setting (R16). The octets that have begun, sent (`onWire`) or
received (in `Hunt.assembling`), stay as they are; the next ones take the new polarity. -/
def polarityLoaded (before new : PolaritySetting) (iu : Intake) : Intake :=
  if before = new then iu
  else match new with
    | .auto => { iu with badWindows := 0 }
    | .normal => { iu with polarity := .normal, badWindows := 0 }
    | .inverted => { iu with polarity := .inverted, badWindows := 0 }

/-- A load of the unit settings changed the unit node address (R4): DU, FS and DS hear that the unit node is Lost, and
then of the state of the record at the new address when it is another one. -/
def unitAddressLoaded (before new : Nat) (iu : Intake) : List Signal :=
  if before = new then []
  else [.unitState .lost]
    ++ (if reportedState new iu.nodes = .lost then [] else [.unitState (reportedState new iu.nodes)])

/-- The distinct addresses of a poll list in the order they are first named. -/
def namedAddresses : List PollEntry → List PollEntry
  | [] => []
  | e :: rest => e :: (namedAddresses rest).filter (fun x => x.address != e.address)

/-- The BadTable cases of Load Poll List other than the form codes (R3). -/
def pollListBad (entries : List PollEntry) : Bool :=
  decide (16 < entries.length) || entries.any (fun e => e.address == 0 || decide (30 < e.address))
    || decide (12 < (namedAddresses entries).length)
    || entries.any (fun e => entries.any (fun x => x.address == e.address && x.form != e.form))

/-- The record an entry of a new poll list gets (R3): the one held, with the form now given, or a fresh one. -/
def rebuildNode (nodes : List NodeRecord) (e : PollEntry) : NodeRecord :=
  match findNode e.address nodes with
  | some r => { r with form := e.form }
  | none => NodeRecord.fresh e.address e.form

/-- A cycle in progress is abandoned (R3, R24); a Node Message in transmission and the wait after it go on. -/
def abandonCycle : LinePhase → LinePhase
  | .message left => .message left
  | .messageWait left => .messageWait left
  | _ => .idle

/-- Load Poll List (R3, R4): the list is replaced, the records rebuilt, the cycle abandoned and a new one started where
cycles run; removals and creations are delivered. -/
def loadPollList (interval : Option Nat) (unitNode : Nat) (entries : List PollEntry) (iu : Intake) : Intake × List Signal :=
  let named := namedAddresses entries
  let nodes := named.map (rebuildNode iu.nodes)
  let removed := (iu.nodes.filter (fun r => named.all (fun e => e.address != r.address))).map NodeRecord.address
  let created := (named.filter (fun e => (findNode e.address iu.nodes).isNone)).map PollEntry.address
  let phase := abandonCycle iu.phase
  let loaded := { iu with
    pollList := entries
    nodes := nodes
    phase := phase
    startDue := interval.isSome }
  (useFreeLine interval (if phase = .idle then endFrame loaded else loaded),
    (removed.flatMap fun a => [.nodeState a .lost] ++ (if a = unitNode then [.unitState .lost] else []))
      ++ (created.flatMap fun a => [.nodeState a .unknown] ++ (if a = unitNode then [.unitState .unknown] else [])))

/-- Forward To Node (R20): the message joins the back of the down queue; on a line idle between cycles it is sent at once
(R21). -/
def forwardMessage (m : NodeMessage) (iu : Intake) : Intake :=
  messageMayStart { iu with down := iu.down ++ [m] }

/-- Inject Sample (R23): the fields are an accepted reading stamped now; the last sequence is kept. -/
def injectReading (address : Nat) (fields : Reading) (iu : Intake) : Intake × List Signal :=
  match findNode address iu.nodes with
  | none => (iu, [])
  | some r =>
    ({ iu with
        nodes := updateNode address (acceptInto iu.timeBase none fields) iu.nodes
        live := { iu.live with accepted := iu.live.accepted + 1#16 } },
      (if r.state = .lost then [.notice .nodeBack (some (octet address))] else [])
        ++ [.reading address iu.timeBase r.lastSequence fields])

/-- Zone Line Reset (R24) on the Intake Unit; the poll list, forms, polarity setting and time base are kept. -/
def resetLine (interval : Option Nat) (setting : PolaritySetting) (iu : Intake) : Intake :=
  useFreeLine interval (endFrame { iu with
    nodes := iu.nodes.map (fun r => NodeRecord.fresh r.address r.form)
    live := IntakeCounters.zero
    snapshot := IntakeCounters.zero
    cycleNumber := 0#16
    badWindows := 0
    polarity := match setting with
      | .inverted => .inverted
      | _ => .normal
    down := []
    phase := .idle
    startDue := interval.isSome })

end Sys2Proof.Machine
end

