-- ==== Sys2Proof/Machine/TankUnit.lean ====
section
/-! DEFINITION. The Tank Monitor (Chapter 8): debounce, level, the blocked report, and the pump. -/
namespace Sys2Proof.Machine

/-! ### Switches (R136) -/

/-- The state of a tank switch. -/
def switchOf (sw : TankSwitch) (tm : Tank) : SwitchState :=
  match sw with
  | .present => tm.present
  | .low => tm.low
  | .high => tm.high
  | .full => tm.full

/-- Replace the state of a tank switch. -/
def setSwitch (sw : TankSwitch) (x : SwitchState) (tm : Tank) : Tank :=
  match sw with
  | .present => { tm with present := x }
  | .low => { tm with low := x }
  | .high => { tm with high := x }
  | .full => { tm with full := x }

/-- A switch input shows a level (R136): a change of the raw input starts the stability timer afresh. -/
def switchInput (sw : TankSwitch) (closed : Bool) (tm : Tank) : Tank :=
  let s := switchOf sw tm
  if s.raw = closed then tm else setSwitch sw { s with raw := closed, stabilityLeft := some stabilityTime } tm

/-- The level of the debounced switches held (Table 8-1). -/
def derivedLevel (tm : Tank) : TankLevel :=
  levelOf tm.present.debounced tm.low.debounced tm.high.debounced tm.full.debounced

/-! ### Pump (R140 to R146) -/

/-- A run ends with a cause and the pump becomes Off (R142, R145, R146). -/
def endRun (cause : PumpFinish) (tm : Tank) : Tank :=
  { tm with pump := .off, maxRunLeft := none, serviceRun := false, finish := cause }

/-- A run starts (R141, R146). -/
def startRun (service : Bool) (tm : Tank) : Tank :=
  { tm with pump := .running, maxRunLeft := some maxRunTime, serviceRun := service }

/-- The pump starts an ordinary run when it is Off and the start condition holds (R141). -/
def checkPump (fitted : Bool) (mode : UnitMode) (tm : Tank) : Tank :=
  if tm.pump = .off ∧ fitted = true ∧ mode ≠ .service ∧ pumpLevel tm.level = true then startRun false tm else tm

/-- A level change at the pump (R142, R143, R144, R146), the new level already held. -/
def pumpLevelChange (fitted : Bool) (mode : UnitMode) (old : TankLevel) (tm : Tank) : Tank :=
  match tm.pump with
  | .running =>
    match tm.level with
    | .absent => endRun .tankRemoved tm
    | .fault => endRun .switchFault tm
    | .empty => if tm.serviceRun then tm else { endRun .emptied tm with timeouts := 0 }
    | _ => tm
  | .rest =>
    match tm.level with
    | .absent => { tm with pump := .off, restLeft := none }
    | .fault => { tm with pump := .off, restLeft := none }
    | .empty => { tm with pump := .off, restLeft := none }
    | _ => tm
  | .fault => if old = .absent then checkPump fitted mode { tm with pump := .off, timeouts := 0 } else tm
  | .off => checkPump fitted mode tm

/-! ### Level and blocked report (R137 to R139) -/

/-- Step 1 of R138: the notice on entering a level. -/
def levelNotice : TankLevel → List Signal
  | .full => [.notice .tankFull none]
  | .fault => [.notice .tankFault none]
  | _ => []

/-- Steps 2 and 3 of R138, the new level already held. -/
def blockReport (old : TankLevel) (tm : Tank) : Tank × List Signal :=
  if blockingLevel tm.level then
    ({ tm with blocked := true, origin := .level, rearmLeft := none }, if tm.blocked then [] else [.tankReport true])
  else if tm.blocked then
    if safeLevel tm.level then
      if safeLevel old then (tm, []) else ({ tm with rearmLeft := some rearmTime }, [])
    else ({ tm with rearmLeft := none }, [])
  else (tm, [])

/-- The level is derived again (R137); only a change acts. -/
def settleLevel (fitted : Bool) (mode : UnitMode) (tm : Tank) : Tank × List Signal :=
  let new := derivedLevel tm
  if new = tm.level then (tm, [])
  else
    let b := blockReport tm.level { tm with level := new }
    (pumpLevelChange fitted mode tm.level b.1, levelNotice new ++ b.2)

/-- A stability timer expires (R136): the switch settles when its input differs or it is unsettled. -/
def stabilityExpiry (fitted : Bool) (mode : UnitMode) (sw : TankSwitch) (tm : Tank) : Tank × List Signal :=
  let s := switchOf sw tm
  match s.stabilityLeft with
  | none => (tm, [])
  | some _ =>
    if s.debounced = some s.raw then (setSwitch sw { s with stabilityLeft := none } tm, [])
    else settleLevel fitted mode (setSwitch sw { s with debounced := some s.raw, stabilityLeft := none } tm)

/-- The re-arm timer expires (R139): the tank becomes clear. -/
def rearmExpiry (tm : Tank) : Tank × List Signal :=
  match tm.rearmLeft with
  | none => (tm, [])
  | some _ =>
    ({ tm with blocked := false, rearmLeft := none },
      [.tankReport false] ++ (if tm.origin = .level then [.notice .tankCleared none] else []))

/-- The maximum run expires (R142, R143, R144, R146). -/
def maxRunExpiry (tm : Tank) : Tank × List Signal :=
  match tm.maxRunLeft with
  | none => (tm, [])
  | some _ =>
    if tm.serviceRun then (endRun .timeout tm, [])
    else
      let counted := { endRun .timeout tm with timeouts := tm.timeouts + 1 }
      if 3 ≤ counted.timeouts then ({ counted with pump := .fault }, [.notice .pumpFault none])
      else ({ counted with pump := .rest, restLeft := some restTime }, [])

/-- The rest timer expires (R143). -/
def restExpiry (fitted : Bool) (mode : UnitMode) (tm : Tank) : Tank :=
  match tm.restLeft with
  | none => tm
  | some _ => checkPump fitted mode { tm with pump := .off, restLeft := none }

/-! ### Settings, modes, requests -/

/-- A load of the unit settings changed pump fitted (R140). -/
def fittedLoaded (mode : UnitMode) (before new : Bool) (tm : Tank) : Tank :=
  match before, new with
  | true, false =>
    let off := if tm.pump = .running then endRun .mode tm else { tm with pump := .off, restLeft := none }
    { off with timeouts := 0 }
  | false, true => checkPump true mode { tm with timeouts := 0 }
  | _, _ => tm

/-- A mode change at the pump (R145). -/
def pumpMode (fitted : Bool) (old new : UnitMode) (tm : Tank) : Tank :=
  if new = .service then
    match tm.pump with
    | .running => endRun .mode tm
    | .rest => { tm with pump := .off, restLeft := none }
    | _ => tm
  else if old = .service then
    checkPump fitted new (if tm.pump = .running then endRun .service tm else tm)
  else tm

/-- Clear Pump Fault (R144). -/
def clearPumpFault (fitted : Bool) (mode : UnitMode) (tm : Tank) : Tank :=
  if tm.pump = .fault then checkPump fitted mode { tm with pump := .off, timeouts := 0 } else tm

/-- The TM's check of a service pump start (R146); a pump already in a service run passes the second test. -/
def pumpRefusal (fitted : Bool) (tm : Tank) : Option Status :=
  if tm.level = .absent ∨ tm.level = .unsettled then some .badMode
  else if fitted = false ∨ tm.pump = .fault then some .busy
  else none

/-- Service Drive asks for the pump on (R146). -/
def servicePumpOn (tm : Tank) : Tank := if tm.pump = .off then startRun true tm else tm

/-- Service Drive asks for the pump off (R146). -/
def servicePumpOff (tm : Tank) : Tank := if tm.pump = .running ∧ tm.serviceRun = true then endRun .service tm else tm

end Sys2Proof.Machine
end

