-- ==== Sys2Proof/Machine/Route.lean ====
section
/-! DEFINITION. The paths between the blocks (00_scope Table 0-2): what each delivery does to the block that receives it,
and the chain of deliveries that one event sets off. A delivery's own deliveries are handled before the ones that stand
behind it (log 7). -/
namespace Sys2Proof.Machine

/-- The cycle interval now in force (Table 1-2). -/
def intervalNow (s : State) : Option Nat := cycleInterval s.mc.mode s.mc.source

/-- A delivery to the Drying Sequencer whose inputs have been changed to `ds` (R118). -/
def toSequencer (ev : DsEvent) (ds : Sequencer) (s : State) : State × List Signal :=
  let r := dsDeliver s.mc.settings.coilMinimum ev ds
  ({ s with ds := r.1 }, r.2)

/-- An accepted reading (R13): to the zones naming the node, with one demand update on all of them together (R30); to
DU, FS and DS when it is the unit node's; and to the PL as a Relay when relay enable is yes. -/
def routeReading (address : Nat) (stamp : Word) (sequence : Option Byte) (fields : Reading) (s : State) :
    State × List Signal :=
  ({ s with dmu := { s.dmu with zones := s.dmu.zones.map (zoneReading address stamp fields) } },
    (if anyNames address s.dmu.zones then [.demandUpdate] else [])
      ++ (if address = s.mc.settings.nodeAddress then [.unitReading stamp fields] else [])
      ++ (if s.mc.settings.relayEnable then [.relay (relayPayload address stamp sequence fields)] else []))

/-- A node's state for the zones naming it (R31); every change delivered to a zone triggers a demand update, one for all
of them (log 8). -/
def routeNodeState (address : Nat) (state : NodeState) (s : State) : State × List Signal :=
  ({ s with dmu := { s.dmu with
      zones := s.dmu.zones.map (zoneNodeState s.mc.settings.holdTime s.iu.timeBase address state) } },
    if anyNames address s.dmu.zones then [.demandUpdate] else [])

/-- A reading of the unit node: DU and FS as one handling (R89, R106), then the DS (R118). -/
def routeUnitReading (stamp : Word) (fields : Reading) (s : State) : State × List Signal :=
  let h := stageReading s.mc.mode s.bd.speed stamp fields s.du s.fs
  let r := toSequencer .unitReading { s.ds with coil := fields.coil, nodeLost := false } { s with du := h.1, fs := h.2.1 }
  (r.1, h.2.2 ++ r.2)

/-- A report of the unit node's state (R4, R13): Lost clears the previous stamp (R95) and the counts (R110) and reaches
the DS; any other state reaches the DS alone (R118). -/
def routeUnitState (state : NodeState) (s : State) : State × List Signal :=
  if state = .lost then
    toSequencer .unitLost { s.ds with coil := none, nodeLost := true }
      { s with du := clearStamp s.du, fs := clearCounts s.fs }
  else toSequencer .unitOther { s.ds with nodeLost := false } s

/-- A Zone Line Reset at DMU, DU, FS and DS (R24, R34, R95, R110, R118). -/
def routeLineReset (s : State) : State × List Signal :=
  let r := toSequencer .lineReset { s.ds with coil := none, nodeLost := false }
    { s with
      dmu := { s.dmu with zones := s.dmu.zones.map zoneLineReset }
      du := clearStamp s.du
      fs := clearCounts s.fs }
  (r.1, r.2 ++ [.demandUpdate])

/-- A demand update (R42, R43). -/
def routeDemandUpdate (s : State) : State × List Signal :=
  let dmu := recompute s.mc s.dp.dampers s.dmu
  ({ s with dmu := dmu }, updateDeliveries s.mc.mode s.dmu dmu)

/-- A delivery of D to Mode Control (R152): a wake from Standby. -/
def routeLargest (d : Nat) (s : State) : State × List Signal :=
  if s.mc.mode = .standby ∧ s.mc.settings.autoWake = true ∧ s.mc.settings.wakeThreshold ≤ d then
    ({ s with mc := { s.mc with largest := d, mode := .run } },
      [.modeChange .standby .run s.mc.source, .notice .modeChanged none])
  else ({ s with mc := { s.mc with largest := d } }, [])

/-- A mode change at every block (R149), and the demand update it triggers (R41). -/
def routeMode (old new : UnitMode) (oldSource : ServiceSource) (s : State) : State × List Signal :=
  let b := blowerMode new s.bd
  let f := filtersMode new s.fs
  let r := toSequencer .mode { s.ds with mode := new }
    { s with
      iu := retime (cycleInterval old oldSource) (cycleInterval new s.mc.source) s.iu
      bd := b.1
      dp := ⟨s.dp.dampers.map (damperMode old new)⟩
      fs := f.1
      tm := pumpMode s.mc.settings.pumpFitted old new s.tm }
  (r.1, b.2 ++ f.2 ++ r.2 ++ [.demandUpdate])

/-- The new unit settings at the blocks that read them (R157); the new record is already held. The DMU's re-timing of
Held zones comes before its demand update. -/
def routeSettings (before : Settings) (s : State) : State × List Signal :=
  let new := s.mc.settings
  ({ s with
      iu := polarityLoaded before.polarity new.polarity s.iu
      bd := edgesLoaded before.edges new.edges s.bd
      ds := coilMinimumLoaded before.coilMinimum new.coilMinimum s.ds
      tm := fittedLoaded s.mc.mode before.pumpFitted new.pumpFitted s.tm
      dmu := if before.holdTime = new.holdTime then s.dmu
        else { s.dmu with zones := s.dmu.zones.map (zoneRetime new.holdTime s.iu.timeBase) } },
    unitAddressLoaded before.nodeAddress new.nodeAddress s.iu ++ [.demandUpdate])

/-- What one delivery does to the block that receives it, and what that block delivers in turn. -/
def route (sig : Signal) (s : State) : State × List Signal :=
  match sig with
  | .notice kind subject => ({ s with pl := post kind subject s.pl }, [])
  | .relay payload => ({ s with pl := placeRelay payload s.pl }, [])
  | .checkpoint item => ({ s with nvs := handItem item s.nvs }, [])
  | .reading address stamp sequence fields => routeReading address stamp sequence fields s
  | .nodeState address state => routeNodeState address state s
  | .unitReading stamp fields => routeUnitReading stamp fields s
  | .unitState state => routeUnitState state s
  | .lineReset => routeLineReset s
  | .demandUpdate => routeDemandUpdate s
  | .demandedDuty duty => ({ s with bd := stageDemand s.mc.mode duty s.bd }, [])
  | .damperTarget i target => ({ s with dp := ⟨s.dp.dampers.set i (takeTarget false target (s.dp.dampers.get i))⟩ }, [])
  | .dryingCall on => toSequencer .call { s.ds with call := on } s
  | .largestDemand d => routeLargest d s
  | .modeChange old new oldSource => routeMode old new oldSource s
  | .sourceChange old new =>
    ({ s with iu := retime (cycleInterval .service old) (cycleInterval .service new) s.iu }, [])
  | .setModeOff => ({ s with bd := (blowerOffRequested s.bd).1 }, (blowerOffRequested s.bd).2)
  | .settingsLoaded before => routeSettings before s
  | .appliedDuty duty => toSequencer .applied { s.ds with applied := duty } s
  | .blowerFaulted faulted => toSequencer .fault { s.ds with faulted := faulted } s
  | .limitMet _ _ => ({ s with dp := ⟨s.dp.dampers.map releaseShare⟩ }, [])
  | .dryingActive on => ({ s with dmu := { s.dmu with dryingActive := on } }, [.demandUpdate])
  | .tankReport blocked => toSequencer .tank { s.ds with tankBlocked := blocked } s
  | .filterMissing missing => ({ s with dmu := { s.dmu with filterMissing := missing } }, [.demandUpdate])

/-- The chain of deliveries, each handled together with what it sets off before the next (R43: the chain ends); at most
`n` deliveries are handled (log 15). -/
def settleChain : Nat → List Signal → State → State
  | 0, _, s => s
  | _ + 1, [], s => s
  | n + 1, sig :: rest, s => settleChain n ((route sig s).2 ++ rest) (route sig s).1

/-- A bound no chain reaches (log 15). -/
abbrev chainBound : Nat := 4000

/-- All that a list of deliveries sets off. -/
def settle (signals : List Signal) (s : State) : State := settleChain chainBound signals s

end Sys2Proof.Machine
end

