-- ==== Sys2Proof/Machine/Clock.lean ====
section
/-! DEFINITION. The part's clock (R17): one millisecond passes when no command waits and nothing is due, and every timer
counts it; the events that are due then are the table's own commands (log 1). -/
namespace Sys2Proof.Machine

/-! ### One millisecond -/

/-- A millisecond on the zone line (R7, R8, R21). -/
def advancePhase : LinePhase → LinePhase
  | .idle => .idle
  | .poll k left => .poll k (left - 1)
  | .answer k p => .answer k { p with windowLeft := countDown p.windowLeft, frameLeft := countDown p.frameLeft }
  | .gap k left => .gap k (left - 1)
  | .message left => .message (left - 1)
  | .messageWait left => .messageWait (left - 1)

/-- How many octets of a frame of `n` octets have begun when `left` of its milliseconds are left: one at its start and
one more every 260.4 µs (R1, section 1.1). -/
def octetsBegun (n left : Nat) : Nat := (zoneLineTime n - left) * 10000 / 2604 + 1

/-- A millisecond at the transmitter of the zone line, the phase being the one after it: the octets that begin in it leave
the pin (R1, R16). -/
def advanceWire (phase : LinePhase) (iu : Intake) : List Byte :=
  match phase with
  | .poll _ left => beginOctets (octetsBegun iu.sending.length left) iu
  | .message left => beginOctets (octetsBegun iu.sending.length left) iu
  | _ => iu.onWire

/-- A millisecond at the Intake Unit (R5, R17): the time base moves on, and the next start time may be reached. -/
def advanceIntake (iu : Intake) : Intake :=
  let now := iu.timeBase + 1#32
  { iu with
    timeBase := now
    phase := advancePhase iu.phase
    onWire := advanceWire (advancePhase iu.phase) iu
    startDue := iu.startDue || iu.nextStart == some now }

/-- A millisecond at the Blower Drive (R47, R54, R56, R59, R61, R63). -/
def advanceBlower (bd : Blower) : Blower :=
  { bd with
    rampLeft := bd.rampLeft - 1
    noCaptureLeft := countDown bd.noCaptureLeft
    stallLeft := countDown bd.stallLeft
    retryLeft := countDown bd.retryLeft
    healthyLeft := countDown bd.healthyLeft
    runFraction := if 0 < bd.applied then min 1000 (bd.runFraction + 1) else bd.runFraction }

/-- A millisecond at the Drying Sequencer (Table 7-2). -/
def advanceSequencer (ds : Sequencer) : Sequencer :=
  { ds with
    offLeft := countDown ds.offLeft
    onLeft := countDown ds.onLeft
    airflowWaitLeft := countDown ds.airflowWaitLeft
    graceLeft := countDown ds.graceLeft
    frostLeft := countDown ds.frostLeft
    defrostLeft := countDown ds.defrostLeft }

/-- A millisecond at a tank switch (R136). -/
def advanceSwitch (x : SwitchState) : SwitchState := { x with stabilityLeft := countDown x.stabilityLeft }

/-- A millisecond at the Tank Monitor (R136, R138, R141, R143). -/
def advanceTank (tm : Tank) : Tank :=
  { tm with
    present := advanceSwitch tm.present
    low := advanceSwitch tm.low
    high := advanceSwitch tm.high
    full := advanceSwitch tm.full
    rearmLeft := countDown tm.rearmLeft
    maxRunLeft := countDown tm.maxRunLeft
    restLeft := countDown tm.restLeft }

/-- A millisecond at the store (R161). -/
def advanceStore (nvs : Store) : Store :=
  { nvs with current := nvs.current.map fun w => { w with left := w.left - 1 } }

/-- A millisecond at the receiver of the panel link (R166). -/
def advanceReceiver : Receiver → Receiver
  | .hunting => .hunting
  | .assembling octets gapLeft => .assembling octets (gapLeft - 1)

/-- A millisecond at the Panel Link (R166, R171). -/
def advancePanel (pl : Panel) : Panel :=
  { pl with
    receiver := advanceReceiver pl.receiver
    sending := pl.sending.map fun x => { x with left := x.left - 1 } }

/-- One millisecond passes (R17). -/
def advance (s : State) : State :=
  { s with
    iu := advanceIntake s.iu
    bd := advanceBlower s.bd
    dp := ⟨s.dp.dampers.map fun d => { d with stepLeft := countDown d.stepLeft }⟩
    ds := advanceSequencer s.ds
    tm := advanceTank s.tm
    nvs := advanceStore s.nvs
    pl := advancePanel s.pl }

/-! ### What is due -/

/-- An event when its condition holds. -/
def dueWhen (condition : Bool) (event : Instr) : List Instr := if condition then [event] else []

/-- What is due on the zone line (R5, R7, R8, R21). -/
def dueLine (interval : Option Nat) (iu : Intake) : List Instr :=
  match iu.phase with
  | .idle => dueWhen (iu.startDue && interval.isSome) .cycleStart
  | .poll _ left => dueWhen (left == 0) .pollSent
  | .answer _ p => dueWhen (ranOut p.windowLeft) .answerWindowExpiry ++ dueWhen (ranOut p.frameLeft) .frameTimerExpiry
  | .gap _ left => dueWhen (left == 0) .answerGapEnd
  | .message left => dueWhen (left == 0) .nodeMessageEnd
  | .messageWait left => dueWhen (left == 0) .messageWaitEnd

/-- The hold expiries that are due (R32). -/
def dueZones (now : Word) (zones : Six Zone) : List Instr :=
  Six.numbers.flatMap fun i =>
    dueWhen ((zones.get i).sample == .held && (zones.get i).holdExpiry == some now) (.holdExpiry i)

/-- What is due at the Blower Drive. -/
def dueBlower (bd : Blower) : List Instr :=
  dueWhen (bd.rampLeft == 0) .rampTick ++ dueWhen (ranOut bd.noCaptureLeft) .noCaptureExpiry
    ++ dueWhen (ranOut bd.stallLeft) .stallTimerExpiry ++ dueWhen (ranOut bd.retryLeft) .retryTimerExpiry
    ++ dueWhen (ranOut bd.healthyLeft) .healthyRunExpiry ++ dueWhen (decide (1000 ≤ bd.runFraction)) .runHoursSecond

/-- The step that is due at a damper (R70, R81); the home switch shows what its pin shows (log 9). -/
def dueDamper (i : Fin 6) (d : Damper) : List Instr :=
  if ranOut d.stepLeft then
    match d.state with
    | .moving => if d.seeking then [.seekStep i d.homeSwitch] else [.moveStep i d.homeSwitch]
    | .homing => [.homingStep i d.homeSwitch]
    | _ => []
  else []

/-- What is due at the Drying Sequencer. -/
def dueSequencer (ds : Sequencer) : List Instr :=
  dueWhen (ranOut ds.offLeft) .offTimerExpiry ++ dueWhen (ranOut ds.onLeft) .onTimerExpiry
    ++ dueWhen (ranOut ds.airflowWaitLeft) .airflowWaitExpiry ++ dueWhen (ranOut ds.graceLeft) .airflowGraceExpiry
    ++ dueWhen (ranOut ds.frostLeft) .frostDwellExpiry ++ dueWhen (ranOut ds.defrostLeft) .defrostMaxExpiry

/-- What is due at the Tank Monitor. -/
def dueTank (tm : Tank) : List Instr :=
  dueWhen (ranOut tm.present.stabilityLeft) (.stabilityTimerExpiry .present)
    ++ dueWhen (ranOut tm.low.stabilityLeft) (.stabilityTimerExpiry .low)
    ++ dueWhen (ranOut tm.high.stabilityLeft) (.stabilityTimerExpiry .high)
    ++ dueWhen (ranOut tm.full.stabilityLeft) (.stabilityTimerExpiry .full)
    ++ dueWhen (ranOut tm.rearmLeft) .rearmExpiry ++ dueWhen (ranOut tm.maxRunLeft) .maxRunExpiry
    ++ dueWhen (ranOut tm.restLeft) .restExpiry

/-- What is due at the store (R161). -/
def dueStore (nvs : Store) : List Instr :=
  match nvs.current with
  | some w => dueWhen (w.left == 0) .nvsWordDone
  | none => []

/-- What is due at the Panel Link (R166, R170, R171): the last octet of the Reply of a pending Restart is the Restart's
effect. -/
def duePanel (pl : Panel) : List Instr :=
  (match pl.receiver with
    | .assembling _ gapLeft => dueWhen (gapLeft == 0) .panelGapTimeout
    | .hunting => [])
    ++ (match pl.sending with
      | some x =>
        dueWhen (x.left == 0) (if pl.restartPending && isRestartReply x.frame then .restartTakesEffect else .upwardFrameEnd)
      | none => [])

/-- All the events that are due now. -/
def due (s : State) : List Instr :=
  dueLine (intervalNow s) s.iu ++ dueZones s.iu.timeBase s.dmu.zones ++ dueBlower s.bd
    ++ (Six.numbers.flatMap fun i => dueDamper i (s.dp.dampers.get i)) ++ dueSequencer s.ds ++ dueTank s.tm
    ++ dueStore s.nvs ++ duePanel s.pl

/-- Which of the events that are due comes first: any of them may, so the choice is free (log 3). -/
def choose (n : Nat) (first : Instr) (others : List Instr) : Instr :=
  (first :: others).getD (Config.tieBreak n (others.length + 1) % (others.length + 1)) first

/-- The state in which the chosen event is taken: a choice among several counts as a free value drawn. -/
def afterChoice (others : List Instr) (s : State) : State :=
  match others with
  | [] => s
  | _ :: _ => { s with freeUsed := s.freeUsed + 1 }

end Sys2Proof.Machine
end

