-- ==== Sys2Proof/Machine/DriveEvents.lean ====
section
/-! DEFINITION. The meanings of the blower and damper events (Chapters 3 and 4). An event whose timer does not run, or
whose situation does not exist, has no effect (log 2). -/
namespace Sys2Proof.Machine

/-- What an event at the Blower Drive does, with all that it delivers. -/
def afterBlower (r : Blower × List Signal) (s : State) : State := settle r.2 { s with bd := r.1 }

/-- What a step of one damper does, with all that it delivers. -/
def afterDamper (i : Fin 6) (r : Damper × List Signal) (s : State) : State :=
  settle r.2 { s with dp := ⟨s.dp.dampers.set i r.1⟩ }

/-- RAMP_TICK (R47 to R52): the Damper Positioner records the reductions taken (R78). -/
def execRampTick (s : State) : Host.Outcome State Fault Refusal :=
  .next (afterBlower (blowerTick s.mc s.dp.dampers s.bd) { s with dp := ⟨s.dp.dampers.map recordCovered⟩ })

/-- TACH_EDGE (R53, R54). -/
def execTachEdge (instant : Nat) (s : State) : Host.Outcome State Fault Refusal :=
  .next { s with bd := tachEdge s.mc.settings instant s.bd }

/-- NO_CAPTURE_EXPIRY (R54, R56). -/
def execNoCaptureExpiry (s : State) : Host.Outcome State Fault Refusal := .next { s with bd := noCapture s.bd }

/-- STALL_TIMER_EXPIRY (R58, R60). -/
def execStallTimerExpiry (s : State) : Host.Outcome State Fault Refusal := .next (afterBlower (stallExpiry s.bd) s)

/-- RETRY_TIMER_EXPIRY (R59). -/
def execRetryTimerExpiry (s : State) : Host.Outcome State Fault Refusal := .next { s with bd := retryExpiry s.bd }

/-- HEALTHY_RUN_EXPIRY (R61). -/
def execHealthyRunExpiry (s : State) : Host.Outcome State Fault Refusal := .next { s with bd := healthyExpiry s.bd }

/-- RUN_HOURS_SECOND (R63, R64). -/
def execRunHoursSecond (s : State) : Host.Outcome State Fault Refusal := .next (afterBlower (runSecond s.bd) s)

/-- MOVE_STEP (R70, R75, R80, R81). -/
def execMoveStep (damper : Fin 6) (home : Bool) (s : State) : Host.Outcome State Fault Refusal :=
  .next (afterDamper damper (moveStep damper home (s.dp.dampers.get damper)) s)

/-- HOMING_STEP (R72). -/
def execHomingStep (damper : Fin 6) (home : Bool) (s : State) : Host.Outcome State Fault Refusal :=
  .next (afterDamper damper (homingStep damper home (s.dp.dampers.get damper)) s)

/-- SEEK_STEP (R81). -/
def execSeekStep (damper : Fin 6) (home : Bool) (s : State) : Host.Outcome State Fault Refusal :=
  .next (afterDamper damper (seekStep damper home (s.dp.dampers.get damper)) s)

end Sys2Proof.Machine
end

