-- ==== Sys2Proof/Machine/LineEvents.lean ====
section
/-! DEFINITION. The meanings of the zone line events and of the hold expiry (Chapters 1 and 2). An event whose timer does
not run, or whose situation does not exist, has no effect (log 2). -/
namespace Sys2Proof.Machine

/-- What an event at the Intake Unit does, with all that it delivers. -/
def afterIntake (r : Intake × List Signal) (s : State) : State := settle r.2 { s with iu := r.1 }

/-- CYCLE_START (R5). -/
def execCycleStart (s : State) : Host.Outcome State Fault Refusal :=
  .next { s with iu := cycleStartReached (intervalNow s) s.iu }

/-- POLL_SENT (R7, R8). -/
def execPollSent (s : State) : Host.Outcome State Fault Refusal := .next { s with iu := pollSent s.iu }

/-- ZONE_LINE_OCTET (R1, R8, R9 to R15). -/
def execZoneLineOctet (octet : Byte) (s : State) : Host.Outcome State Fault Refusal :=
  .next (afterIntake (zoneOctet s.mc.settings octet s.iu) s)

/-- ANSWER_WINDOW_EXPIRY (R8, R14, R15). -/
def execAnswerWindowExpiry (s : State) : Host.Outcome State Fault Refusal :=
  .next (afterIntake (windowExpiry s.mc.settings s.iu) s)

/-- FRAME_TIMER_EXPIRY (R8, R14, R15). -/
def execFrameTimerExpiry (s : State) : Host.Outcome State Fault Refusal :=
  .next (afterIntake (frameExpiry s.mc.settings s.iu) s)

/-- ANSWER_GAP_END (R7). -/
def execAnswerGapEnd (s : State) : Host.Outcome State Fault Refusal :=
  .next { s with iu := gapEnd (intervalNow s) s.iu }

/-- NODE_MESSAGE_START (R20, R21). -/
def execNodeMessageStart (s : State) : Host.Outcome State Fault Refusal :=
  .next { s with iu := messageMayStart s.iu }

/-- NODE_MESSAGE_END (R20, R21). -/
def execNodeMessageEnd (s : State) : Host.Outcome State Fault Refusal := .next { s with iu := messageEnd s.iu }

/-- MESSAGE_WAIT_END (R21). -/
def execMessageWaitEnd (s : State) : Host.Outcome State Fault Refusal :=
  .next { s with iu := messageWaitEnd (intervalNow s) s.iu }

/-- HOLD_EXPIRY (R32): a Held zone becomes Stale, and a demand update follows. -/
def execHoldExpiry (zone : Fin 6) (s : State) : Host.Outcome State Fault Refusal :=
  let z := s.dmu.zones.get zone
  if z.sample = .held then
    .next (settle [.demandUpdate] { s with dmu := { s.dmu with zones := s.dmu.zones.set zone (zoneHoldExpiry z) } })
  else .next s

end Sys2Proof.Machine
end

