-- ==== Sys2Proof/Machine/Requests.lean ====
section
/-! DEFINITION. The requests of Table 11-2 at their owners: the checks of each in the order its rule gives, its effect
with all that it sets off, and its reply data (Table 11-5, Table 11-6). Every function here reads the fields after the
request number. -/
namespace Sys2Proof.Machine

/-! ### Mode Control (Chapter 9) -/

/-- The mode changes (R149, R150, R155): the source is the one given, Line outside Service, and the service record holds
nothing after a change into or out of Service. -/
def changeMode (new : UnitMode) (source : ServiceSource) (s : State) : State :=
  let record : ServiceRecord :=
    if new = .service ∨ s.mc.mode = .service then ⟨none, none, none⟩ else s.mc.record
  settle ([.modeChange s.mc.mode new s.mc.source] ++ (if new = .off then [.setModeOff] else []))
    { s with mc := { s.mc with mode := new, source := source, record := record } }

/-- Set Mode that has passed its checks (R150). -/
def takeMode (new : UnitMode) (source : ServiceSource) (s : State) : State :=
  if new ≠ s.mc.mode then changeMode new source s
  else if new = .service ∧ source ≠ s.mc.source then
    settle [.sourceChange s.mc.source source] { s with mc := { s.mc with source := source } }
  else if new = .off then settle [.setModeOff] s
  else s

/-- Set Mode (R150). -/
def answerSetMode (fields : List Byte) (s : State) : Answer :=
  match fields with
  | [m] =>
    match modeOf m with
    | some .service => refuse .badLength s
    | some new => carried (takeMode new .line s)
    | none => refuse .badTable s
  | [m, src] =>
    match modeOf m with
    | some .service =>
      match sourceOf src with
      | some source => carried (takeMode .service source s)
      | none => refuse .badTable s
    | _ => refuse .badLength s
  | _ => refuse .badLength s

/-- The unit settings a Load Unit Settings carries, when every field lies in its range (Table 9-2, R156 step 2). -/
def settingsOf (f : List Byte) : Option Settings :=
  match boolOf (byteAt 1 f), polarityOf (byteAt 2 f), quadOf (byteAt 3 f), quadOf (byteAt 4 f), boolOf (byteAt 23 f),
    boolOf (byteAt 24 f) with
  | some relay, some polarity, some runProfile, some quietProfile, some wake, some fitted =>
    let n : Settings :=
      { nodeAddress := (byteAt 0 f).toNat
        relayEnable := relay
        polarity := polarity
        runProfile := runProfile
        quietProfile := quietProfile
        runCap := numAt 5 f
        quietCap := numAt 7 f
        idleDuty := numAt 9 f
        coilMinimum := numAt 11 f
        fixedShare := numAt 13 f
        holdTime := numAt 15 f
        callOn := (halfAt 17 f).toInt
        callOff := (halfAt 19 f).toInt
        wakeThreshold := numAt 21 f
        autoWake := wake
        pumpFitted := fitted
        edges := (byteAt 25 f).toNat
        pulses := (byteAt 26 f).toNat }
    if 1 ≤ n.nodeAddress ∧ n.nodeAddress ≤ 30 ∧ 200 ≤ n.runCap ∧ n.runCap ≤ 1000 ∧ 200 ≤ n.quietCap ∧ n.quietCap ≤ 1000
        ∧ n.idleDuty ≤ 400 ∧ 200 ≤ n.coilMinimum ∧ n.coilMinimum ≤ 600 ∧ n.coilMinimum ≤ n.quietCap
        ∧ n.fixedShare ≤ 1000 ∧ 10 ≤ n.holdTime ∧ n.holdTime ≤ 600 ∧ -700 ≤ n.callOn ∧ n.callOn ≤ 700
        ∧ -700 ≤ n.callOff ∧ n.callOff < n.callOn ∧ 1 ≤ n.wakeThreshold ∧ n.wakeThreshold ≤ 1000
        ∧ (n.edges = 1 ∨ n.edges = 2 ∨ n.edges = 4) ∧ 1 ≤ n.pulses ∧ n.pulses ≤ 4 then some n
    else none
  | _, _, _, _, _, _ => none

/-- Load Unit Settings (R156, R157). -/
def answerUnitSettings (fields : List Byte) (s : State) : Answer :=
  match settingsOf fields with
  | none => refuse .badTable s
  | some new =>
    if 0 < s.bd.applied then refuse .busy s
    else carried (settle [.settingsLoaded s.mc.settings] { s with mc := { s.mc with settings := new } })

/-! ### Zones (Chapter 2) -/

/-- Set Zone Targets (R27). -/
def answerZoneTargets (fields : List Byte) (s : State) : Answer :=
  match sixOf (byteAt 0 fields) with
  | none => refuse .badIndex s
  | some i =>
    let pm := clampNat 5 500 (numAt 1 fields)
    let rh := clampNat 300 700 (numAt 3 fields)
    let z := s.dmu.zones.get i
    let targeted := { z with entry := { z.entry with pmTarget := pm, rhTarget := rh } }
    ⟨if pm = numAt 1 fields ∧ rh = numAt 3 fields then .done else .clamped, [],
      settle [.demandUpdate] { s with dmu := { s.dmu with zones := s.dmu.zones.set i targeted } }⟩

/-- The zone table entry a Load Zone Entry carries, when step 2 of R26 passes. -/
def zoneEntryOf (f : List Byte) : Option ZoneEntry :=
  match boolOf (byteAt 1 f), boolOf (byteAt 8 f) with
  | some enabled, some drying =>
    if 5 ≤ numAt 3 f ∧ numAt 3 f ≤ 500 ∧ 1 ≤ (byteAt 5 f).toNat ∧ 300 ≤ numAt 6 f ∧ numAt 6 f ≤ 700 then
      some ⟨enabled, (byteAt 2 f).toNat, numAt 3 f, (byteAt 5 f).toNat, numAt 6 f, drying⟩
    else none
  | _, _ => none

/-- Load Zone Entry (R26, R29). -/
def answerZoneEntry (fields : List Byte) (s : State) : Answer :=
  match sixOf (byteAt 0 fields) with
  | none => refuse .badIndex s
  | some i =>
    match zoneEntryOf fields with
    | none => refuse .badTable s
    | some e =>
      if e.node ≠ 0 ∧ (30 < e.node ∨ findNode e.node s.iu.nodes = none) then refuse .badIndex s
      else
        let bound := bindZone s.mc.settings.holdTime s.iu.timeBase (findNode e.node s.iu.nodes)
          { s.dmu.zones.get i with entry := e }
        carried (settle [.demandUpdate] { s with dmu := { s.dmu with zones := s.dmu.zones.set i bound } })

/-- A 32-bit time that may be absent: its four octets, free when it is absent (log 13), at draw `n` and place `k`. -/
def timeOctets (n k : Nat) : Option Word → List Byte
  | some t => octets32 t
  | none => [Config.freeOctet n k, Config.freeOctet n (k + 1), Config.freeOctet n (k + 2), Config.freeOctet n (k + 3)]

/-- A mark of presence in bit `k` of a presence octet (Table 11-5). -/
def presenceBit (k : Nat) (present : Bool) : Byte := if present then 1#8 <<< k else 0#8

/-- The six configured fields of a zone as Load Zone Entry carries them (Table 11-5). -/
def zoneEntryOctets (e : ZoneEntry) : List Byte :=
  [boolCode e.enabled, octet e.node] ++ nat16 e.pmTarget ++ [octet e.gain] ++ nat16 e.rhTarget ++ [boolCode e.drying]

/-- The reply data of Read Zone (Table 11-5). -/
def zoneData (n : Nat) (i : Fin 6) (z : Zone) : List Byte :=
  [octet i.val] ++ zoneEntryOctets z.entry ++ [sampleCode z.sample] ++ readingNat16 z.pm25 ++ readingNat16 z.rh
    ++ readingInt16 z.temperature ++ [presenceBit 0 z.lastAccept.isSome ||| presenceBit 1 z.holdExpiry.isSome]
    ++ timeOctets n 0 z.lastAccept ++ timeOctets n 4 z.holdExpiry ++ nat16 z.dPm ++ readingInt16 z.err ++ nat16 z.dRh
    ++ nat16 z.d ++ nat16 z.opening ++ optNat16 z.target

/-- Read Zone (R28): it changes nothing; the free octets it returns count as drawn. -/
def answerReadZone (fields : List Byte) (s : State) : Answer :=
  match sixOf (byteAt 0 fields) with
  | none => refuse .badIndex s
  | some i => ⟨.done, zoneData s.freeUsed i (s.dmu.zones.get i), { s with freeUsed := s.freeUsed + 1 }⟩

/-! ### Intake (Chapter 1) -/

/-- The poll list that octet pairs give; none when an expected form is none of the three (R3). -/
def entriesOf : List (Byte × Byte) → Option (List PollEntry)
  | [] => some []
  | (a, f) :: rest =>
    match formOf f, entriesOf rest with
    | some form, some entries => some (⟨a.toNat, form⟩ :: entries)
    | _, _ => none

/-- Load Poll List (R3, R4). -/
def answerPollList (fields : List Byte) (s : State) : Answer :=
  match fields with
  | [] => refuse .badLength s
  | count :: rest =>
    if rest.length = 2 * count.toNat then
      match entriesOf (pairs rest) with
      | none => refuse .badTable s
      | some entries =>
        if pollListBad entries then refuse .badTable s
        else
          let l := loadPollList (intervalNow s) s.mc.settings.nodeAddress entries s.iu
          carried (settle l.2 { s with iu := l.1 })
    else refuse .badLength s

/-- The reply data of Read Node (Table 11-5). -/
def nodeData (n : Nat) (r : NodeRecord) : List Byte :=
  [octet r.address, formCode r.form, nodeStateCode r.state, octet r.misses, optOctet r.lastSequence,
    presenceBit 0 r.last.status.isSome ||| presenceBit 1 r.lastAccept.isSome ||| presenceBit 2 r.lastSequence.isSome]
    ++ readingOctets r.last ++ [optOctet r.last.status] ++ timeOctets n 0 r.lastAccept ++ octets32 r.accepted

/-- Read Node (R19): it changes nothing; the free octets it returns count as drawn. -/
def answerReadNode (fields : List Byte) (s : State) : Answer :=
  match findNode (byteAt 0 fields).toNat s.iu.nodes with
  | none => refuse .badIndex s
  | some r => ⟨.done, nodeData s.freeUsed r, { s with freeUsed := s.freeUsed + 1 }⟩

/-- The reply data of Read Counters (R19, Table 11-5). -/
def countersData (iu : Intake) : List Byte :=
  octets16 iu.snapshot.accepted ++ octets16 iu.snapshot.checkFail ++ octets16 iu.snapshot.timeout
    ++ octets16 iu.snapshot.stray ++ octets16 iu.snapshot.duplicate ++ octets16 iu.snapshot.formMismatch
    ++ octets16 iu.snapshot.polarityFlips ++ octets16 iu.cycleNumber

/-- Read Counters (R19). -/
def answerReadCounters (s : State) : Answer := ⟨.done, countersData s.iu, s⟩

/-- Forward To Node (R20). -/
def answerForward (fields : List Byte) (s : State) : Answer :=
  match fields with
  | [] => refuse .badLength s
  | a :: rest =>
    if a.toNat = 0 ∨ 31 < a.toNat then refuse .badIndex s
    else match rest with
      | [] => refuse .badLength s
      | n :: data =>
        if 18 < n.toNat ∨ n.toNat ≠ data.length then refuse .badLength s
        else if 4 ≤ s.iu.down.length then refuse .full s
        else carried { s with iu := forwardMessage ⟨a, data⟩ s.iu }

/-- Inject Sample (R22, R23). -/
def answerInject (fields : List Byte) (s : State) : Answer :=
  if s.mc.mode = .service ∧ s.mc.source = .inject then
    match findNode (byteAt 0 fields).toNat s.iu.nodes with
    | none => refuse .badIndex s
    | some _ =>
      let reading : Reading :=
        { temperature := temperatureField (halfAt 1 fields)
          rh := unsignedField (halfAt 3 fields)
          pm25 := unsignedField (halfAt 5 fields)
          pm10 := unsignedField (halfAt 7 fields)
          pressure := unsignedField (halfAt 9 fields)
          coil := temperatureField (halfAt 11 fields)
          status := some (byteAt 13 fields) }
      let l := injectReading (byteAt 0 fields).toNat reading s.iu
      carried (settle l.2 { s with iu := l.1 })
  else refuse .badMode s

/-- Zone Line Reset (R24). -/
def answerLineReset (s : State) : Answer :=
  carried (settle [.lineReset] { s with iu := resetLine (intervalNow s) s.mc.settings.polarity s.iu })

/-! ### Blower, dampers, fan curve, filters (Chapters 3 to 6) -/

/-- The bands of a ramp profile that octets give, four for each. -/
def bandsOf : List Byte → List Band
  | c1 :: c0 :: r :: f :: rest => ⟨(half c1 c0).toNat, r.toNat, f.toNat⟩ :: bandsOf rest
  | _ => []

/-- The ceilings rise strictly from above `low` and the last is 1000 (R49). -/
def ceilingsRise : Nat → List Band → Bool
  | low, [] => low == 1000
  | low, b :: rest => decide (low < b.ceiling) && ceilingsRise b.ceiling rest

/-- A band's steps lie in 1 to 200 (R49). -/
def stepsInRange (b : Band) : Bool :=
  decide (1 ≤ b.rise) && decide (b.rise ≤ 200) && decide (1 ≤ b.fall) && decide (b.fall ≤ 200)

/-- A ramp profile meets step 3 of R49: 1 to 8 bands, ceilings strictly rising in 1 to 1000 up to 1000, steps 1 to
200. -/
def profileInRange (bands : List Band) : Bool :=
  decide (1 ≤ bands.length) && decide (bands.length ≤ 8) && ceilingsRise 0 bands && bands.all stepsInRange

/-- Load Ramp Profile (R49). -/
def answerRampProfile (fields : List Byte) (s : State) : Answer :=
  match fields with
  | [] => refuse .badLength s
  | p :: rest =>
    match quadOf p with
    | none => refuse .badIndex s
    | some i =>
      match rest with
      | [] => refuse .badLength s
      | count :: octets =>
        if octets.length = 4 * count.toNat then
          if profileInRange (bandsOf octets) then
            carried { s with bd := { s.bd with profiles := s.bd.profiles.set i (bandsOf octets) } }
          else refuse .badTable s
        else refuse .badLength s

/-- The damper table entry a Load Damper Entry carries, when step 2 of R67 passes. -/
def damperEntryOf (f : List Byte) : Option DamperEntry :=
  match boolOf (byteAt 1 f) with
  | some fitted =>
    if 200 ≤ numAt 2 f ∧ numAt 2 f ≤ 2000 ∧ numAt 4 f ≤ 500 ∧ numAt 6 f ≤ 1000 then
      some ⟨fitted, numAt 2 f, numAt 4 f, numAt 6 f⟩
    else none
  | none => none

/-- Load Damper Entry (R67, R68). -/
def answerDamperEntry (fields : List Byte) (s : State) : Answer :=
  match sixOf (byteAt 0 fields) with
  | none => refuse .badIndex s
  | some i =>
    match damperEntryOf fields with
    | none => refuse .badTable s
    | some e =>
      let d := s.dp.dampers.get i
      if 0 < s.bd.applied ∨ d.state = .moving ∨ d.state = .homing then refuse .busy s
      else carried (settle [.demandUpdate]
        { s with dp := ⟨s.dp.dampers.set i (loadDamper s.mc.mode e d)⟩ })

/-- Load Fan Curve (R92). -/
def answerFanCurve (fields : List Byte) (s : State) : Answer :=
  let points := (halves fields).map BitVec.toNat
  if points.all (fun p => decide (p ≤ 1500)) then carried { s with du := { s.du with curve := points } }
  else refuse .badTable s

/-- Load Filter Class (R103). -/
def answerFilterClass (fields : List Byte) (s : State) : Answer :=
  match quadOf (byteAt 0 fields) with
  | none => refuse .badIndex s
  | some i =>
    match classOf (fields.drop 1) with
    | none => refuse .badLength s
    | some c =>
      if classInRange c = false then refuse .badTable s
      else if s.fs.pre.number = i ∨ s.fs.fine.number = i then refuse .busy s
      else carried { s with fs := { s.fs with classes := s.fs.classes.set i c } }

/-- Filter Replaced (R111). -/
def answerFilterReplaced (fields : List Byte) (s : State) : Answer :=
  if byteAt 0 fields = 1#8 ∨ byteAt 0 fields = 2#8 then
    match quadOf (byteAt 1 fields) with
    | none => refuse .badIndex s
    | some c =>
      let r := replaceFilter (byteAt 0 fields == 2#8) c (wordAt 2 fields) s.fs
      carried (settle r.2 { s with fs := r.1 })
  else refuse .badIndex s

/-- The airflow record as Read Stage returns it (R102, R105, Table 11-5): of an absent record only the mark of presence
is given, and its other fifteen octets are free (log 13). -/
def airflowOctets (n : Nat) : Option AirflowRecord → List Byte
  | some a =>
    [1#8] ++ octets32 a.stamp ++ nat16 a.speed ++ nat16 a.free ++ nat16 a.restriction ++ nat16 a.airflow
      ++ nat16 a.interval ++ [boolCode a.clamped]
  | none => [0#8] ++ (List.range 15).map (Config.freeOctet n)

/-- The reply data of Read Stage (R105, Table 11-5). -/
def stageOctets (n : Nat) (fine : Bool) (r : StageRecord) (du : Dose) : List Byte :=
  [if fine then 2#8 else 1#8, octet r.number.val] ++ nat32 r.dose ++ nat32 r.remainder ++ nat16 r.held ++ nat16 r.life
    ++ [stageStateCode r.state, boolCode r.restored] ++ nat16 r.checkpointLife ++ octets32 r.stamp
    ++ [boolCode r.unsaved, if fine then octet r.absentCount else 0#8, if fine then octet r.presentCount else 0#8]
    ++ octets16 du.gaps ++ airflowOctets n du.airflow

/-- Read Stage (R105): it changes nothing; the free octets it returns count as drawn. -/
def answerReadStage (fields : List Byte) (s : State) : Answer :=
  if byteAt 0 fields = 1#8 then
    ⟨.done, stageOctets s.freeUsed false s.fs.pre s.du, { s with freeUsed := s.freeUsed + 1 }⟩
  else if byteAt 0 fields = 2#8 then
    ⟨.done, stageOctets s.freeUsed true s.fs.fine s.du, { s with freeUsed := s.freeUsed + 1 }⟩
  else refuse .badIndex s

/-! ### Lockout, pump fault, Service Drive (Chapters 7 to 9) -/

/-- Clear Lockout (R132). -/
def answerClearLockout (s : State) : Answer :=
  if s.mc.mode = .off then
    let r := clearLockout s.mc.settings.coilMinimum s.ds
    carried (settle r.2 { s with ds := r.1 })
  else refuse .badMode s

/-- Clear Pump Fault (R144). -/
def answerClearPumpFault (s : State) : Answer :=
  carried { s with tm := clearPumpFault s.mc.settings.pumpFitted s.mc.mode s.tm }

/-- The parts a Service Drive carries, each absent or present, as octets give them (R153, Table 11-5). -/
structure ServiceParts where
  blower : Option Half
  dampers : List (Byte × Half)
  pump : Option Byte
  compressor : Option Byte

/-- Damper targets, three octets each, from the front of a list; none when it is too short. -/
def driveTargets : Nat → List Byte → Option (List (Byte × Half) × List Byte)
  | 0, rest => some ([], rest)
  | n + 1, d :: h :: l :: rest =>
    match driveTargets n rest with
    | some (targets, left) => some ((d, half h l) :: targets, left)
    | none => none
  | _ + 1, _ => none

/-- The parts that the octets after a parts octet give (Table 11-5); none when their length is not that of the parts
declared (R153 step 2). -/
def drivePartsOf (parts : Byte) (octets : List Byte) : Option ServiceParts :=
  let blower : Option (Option Half × List Byte) :=
    if parts.getLsbD 0 then
      match octets with
      | h :: l :: rest => some (some (half h l), rest)
      | _ => none
    else some (none, octets)
  let dampers : Option (List (Byte × Half) × List Byte) :=
    blower.bind fun b =>
      if parts.getLsbD 1 then
        match b.2 with
        | count :: rest => driveTargets count.toNat rest
        | [] => none
      else some ([], b.2)
  let pump : Option (Option Byte × List Byte) :=
    dampers.bind fun d =>
      if parts.getLsbD 2 then
        match d.2 with
        | p :: rest => some (some p, rest)
        | [] => none
      else some (none, d.2)
  let compressor : Option (Option Byte × List Byte) :=
    pump.bind fun p =>
      if parts.getLsbD 3 then
        match p.2 with
        | c :: rest => some (some c, rest)
        | [] => none
      else some (none, p.2)
  match blower, dampers, pump, compressor with
  | some b, some d, some p, some (c, []) => some ⟨b.1, d.1, p.1, c⟩
  | _, _, _, _ => none

/-- Some damper is named twice (R153 step 4). -/
def namedTwice : List (Byte × Half) → Bool
  | [] => false
  | t :: rest => rest.any (fun u => u.1 == t.1) || namedTwice rest

/-- An on or off request of a part: absent, or 0 or 1 (R153 step 4). -/
def switchBad : Option Byte → Bool
  | some o => (boolOf o).isNone
  | none => false

/-- Step 4 of R153. -/
def driveBad (parts : Byte) (p : ServiceParts) : Bool :=
  parts &&& 0xF0#8 != 0#8 || (match p.blower with
    | some b => decide (1000 < b.toNat)
    | none => false)
    || p.dampers.any (fun t => decide (2000 < t.2.toNat)) || namedTwice p.dampers || switchBad p.pump
    || switchBad p.compressor

/-- Step 5 of R153: the TM's check of a pump request of on (R146). -/
def pumpCheck (p : ServiceParts) (s : State) : Option Status :=
  if p.pump = some 1#8 then pumpRefusal s.mc.settings.pumpFitted s.tm else none

/-- Step 6 of R153: the DS's check of a compressor request of on (R133); a service compressor that is already on
passes. -/
def compressorCheck (p : ServiceParts) (s : State) : Bool :=
  p.compressor == some 1#8 && !s.ds.service && refusesCompressor s.mc.settings.coilMinimum s.ds

/-- The blower part (R154, R155). -/
def driveBlower (demand : Option Half) (s : State) : State :=
  match demand with
  | some b =>
    { s with
      bd := { s.bd with staged := b.toNat }
      mc := { s.mc with record := { s.mc.record with blower := some b.toNat } } }
  | none => s

/-- One damper target of Service Drive (R154, Table 4-4). -/
def driveDamper (t : Byte × Half) (dampers : Six Damper) : Six Damper :=
  match sixOf t.1 with
  | some i => dampers.set i (takeTarget true t.2.toNat (dampers.get i))
  | none => dampers

/-- The damper part (R154). -/
def driveDampers (targets : List (Byte × Half)) (s : State) : State :=
  { s with dp := ⟨targets.foldl (fun d t => driveDamper t d) s.dp.dampers⟩ }

/-- The pump part (R154, R155). -/
def drivePump (request : Option Byte) (s : State) : State :=
  match request with
  | some o =>
    let on := o == 1#8
    { s with
      tm := if on then servicePumpOn s.tm else servicePumpOff s.tm
      mc := { s.mc with record := { s.mc.record with pump := some on } } }
  | none => s

/-- The compressor part (R154, R155). -/
def driveCompressor (request : Option Byte) (s : State) : State :=
  match request with
  | some o =>
    let on := o == 1#8
    { s with
      ds := if on then serviceOn s.ds else serviceOff s.ds
      mc := { s.mc with record := { s.mc.record with compressor := some on } } }
  | none => s

/-- Service Drive applied part by part (R154). -/
def driveParts (p : ServiceParts) (s : State) : State :=
  driveCompressor p.compressor (drivePump p.pump (driveDampers p.dampers (driveBlower p.blower s)))

/-- Service Drive (R153, R154). -/
def answerDrive (fields : List Byte) (s : State) : Answer :=
  if s.mc.mode ≠ .service then refuse .badMode s
  else match fields with
    | [] => refuse .badLength s
    | parts :: octets =>
      match drivePartsOf parts octets with
      | none => refuse .badLength s
      | some p =>
        if p.dampers.any (fun t => decide (6 ≤ t.1.toNat)) then refuse .badIndex s
        else if driveBad parts p then refuse .badTable s
        else match pumpCheck p s with
          | some status => refuse status s
          | none => if compressorCheck p s then refuse .busy s else carried (driveParts p s)

/-! ### Store (Chapter 10) -/

/-- Store Read (R165). -/
def answerStoreRead (fields : List Byte) (s : State) : Answer :=
  let a := numAt 0 fields
  let n := (byteAt 2 fields).toNat
  if n = 0 ∨ 32 < n then refuse .badLength s
  else if 1024 < a + n then refuse .badAddress s
  else ⟨.done, Memory.readAll s.nvs.cells a n, s⟩

/-- A panel item for another address waits in the write queue (R164 step 3). -/
def otherPanelWaits (a : Nat) (queue : List StoreItem) : Bool :=
  queue.any fun x => match x.target with
    | .panel b => b != a
    | _ => false

/-- Store Write (R164). -/
def answerStoreWrite (fields : List Byte) (s : State) : Answer :=
  let a := numAt 0 fields
  if a < 512 ∨ 1020 < a ∨ a % 4 ≠ 0 then refuse .badAddress s
  else if otherPanelWaits a s.nvs.queue then refuse .full s
  else carried { s with nvs := handItem ⟨.panel a, (fields.drop 2).take 4⟩ s.nvs }

/-! ### Panel Link (Chapter 11) -/

/-- Set Notice Mask (R173). -/
def answerNoticeMask (fields : List Byte) (s : State) : Answer :=
  let mask := triple (byteAt 0 fields) (byteAt 1 fields) (byteAt 2 fields)
  if mask &&& 0xFC0000#24 ≠ 0#24 then refuse .badTable s
  else carried { s with pl := pump { s.pl with mask := mask } }

/-- Clear Notices (R173). -/
def answerClearNotices (fields : List Byte) (s : State) : Answer :=
  let kinds := triple (byteAt 0 fields) (byteAt 1 fields) (byteAt 2 fields)
  if kinds &&& 0xFC0000#24 ≠ 0#24 then refuse .badTable s
  else carried { s with pl := { s.pl with pending := s.pl.pending.filter (fun e => unmasked kinds e.kind) } }

/-- Restart (R170): it is pending until its Reply has been sent. -/
def answerRestart (s : State) : Answer := carried { s with pl := { s.pl with restartPending := true } }

/-- Read Finish Causes (R62, R83, R134, R147). -/
def answerFinishCauses (s : State) : Answer :=
  ⟨.done, [blowerFinishCode s.bd.finish, compressorFinishCode s.ds.finish, pumpFinishCode s.tm.finish]
    ++ s.dp.dampers.toList.map (fun d => damperFinishCode d.finish), s⟩

/-! ### Read Table (R175) -/

/-- The entries of a poll list as Load Poll List carries them. -/
def pollListOctets (entries : List PollEntry) : List Byte :=
  [octet entries.length] ++ entries.flatMap fun e => [octet e.address, formCode e.form]

/-- The bands of a ramp profile as Load Ramp Profile carries them after its profile number. -/
def profileOctets (bands : List Band) : List Byte :=
  [octet bands.length] ++ bands.flatMap fun b => nat16 b.ceiling ++ [octet b.rise, octet b.fall]

/-- The eight fields of a filter class as Load Filter Class carries them after its class number. -/
def filterClassOctets (c : FilterClass) : List Byte :=
  nat16 c.capacity ++ nat16 c.efficiency ++ nat16 c.clean ++ nat16 c.worn ++ nat16 c.absent ++ [octet c.slope]
    ++ nat16 c.reference ++ nat16 c.due

/-- The four fields of a damper entry as Load Damper Entry carries them after its damper number. -/
def damperEntryOctets (e : DamperEntry) : List Byte :=
  [boolCode e.fitted] ++ nat16 e.travel ++ nat16 e.bleed ++ nat16 e.rest

/-- The unit settings in the order of Table 9-2. -/
def settingsRecordOctets (u : Settings) : List Byte :=
  [octet u.nodeAddress, boolCode u.relayEnable, polarityCode u.polarity, octet u.runProfile.val,
    octet u.quietProfile.val] ++ nat16 u.runCap ++ nat16 u.quietCap ++ nat16 u.idleDuty ++ nat16 u.coilMinimum
    ++ nat16 u.fixedShare ++ nat16 u.holdTime ++ int16 u.callOn ++ int16 u.callOff ++ nat16 u.wakeThreshold
    ++ [boolCode u.autoWake, boolCode u.pumpFitted, octet u.edges, octet u.pulses]

/-- Read Table (R175): it changes nothing. -/
def answerReadTable (fields : List Byte) (s : State) : Answer :=
  let index := byteAt 1 fields
  let reply (table : List Byte) : Answer := ⟨.done, [byteAt 0 fields, index] ++ table, s⟩
  match (byteAt 0 fields).toNat with
  | 0 => reply (pollListOctets s.iu.pollList)
  | 1 => reply (s.du.curve.flatMap nat16)
  | 2 => match quadOf index with
    | some i => reply (profileOctets (s.bd.profiles.get i))
    | none => refuse .badIndex s
  | 3 => match quadOf index with
    | some i => reply (filterClassOctets (s.fs.classes.get i))
    | none => refuse .badIndex s
  | 4 => match sixOf index with
    | some i => reply (damperEntryOctets (s.dp.dampers.get i).entry)
    | none => refuse .badIndex s
  | 5 => reply (settingsRecordOctets s.mc.settings)
  | _ => refuse .badTable s

/-! ### Read Status (R174, Table 11-6) -/

/-- A service request of on or off, or its absence (Table 11-6, section 11.9). -/
def optBool : Option Bool → Byte
  | some b => boolCode b
  | none => 0xFF#8

/-- Page 0 of Table 11-6. -/
def statusPage0 (s : State) : List Byte :=
  [modeCode s.mc.mode, sourceCode s.mc.source, boolCode s.pl.overrun, statusCode s.pl.errorStatus, s.pl.errorRequest]
    ++ octets16 s.pl.requestsDropped ++ octets16 s.pl.relaysDropped ++ octets16 s.pl.checkFail ++ octets16 s.pl.kindFail
    ++ [octet s.pl.requests.length, octet (countFrames .relay s.pl.upward), octet (countFrames .reply s.pl.upward),
      octet (countFrames .notice s.pl.upward), octet s.pl.pending.length]
    ++ octets24 s.pl.mask ++ [boolCode s.dmu.call] ++ nat16 s.dmu.demandedDuty ++ optNat16 s.mc.record.blower
    ++ [optBool s.mc.record.pump, optBool s.mc.record.compressor]

/-- Page 1 of Table 11-6; the off timer's seconds are rounded up. -/
def statusPage1 (s : State) : List Byte :=
  nat16 s.bd.applied ++ nat16 s.bd.staged ++ nat16 s.bd.allowance ++ [blowerStateCode s.bd.state, octet s.bd.retryCount]
    ++ nat16 s.bd.speed ++ octets16 s.bd.cuts ++ nat32 s.bd.runSeconds
    ++ [dsStateCode s.ds.state, boolCode s.ds.compressor, octet s.ds.timeouts, octet ((leftOf s.ds.offLeft + 999) / 1000)]

/-- One damper on pages 2 and 3 of Table 11-6. -/
def damperOctets (d : Damper) : List Byte :=
  [damperStateCode d.state] ++ optNat16 d.position ++ optNat16 d.target ++ nat16 d.share ++ nat16 d.pending

/-- The state of a tank switch (Table 11-6, page 4). -/
def switchCode : Option Bool → Byte
  | some false => 0#8 | some true => 1#8 | none => 2#8

/-- A time left in seconds on page 4: a part of a second is dropped or counted whole, which the manual leaves open
(log 14), at draw `n`. -/
def secondsLeft (n : Nat) (left : Option Nat) : Byte :=
  octet (if leftOf left % 1000 = 0 then leftOf left / 1000
    else if Config.roundsUp n then leftOf left / 1000 + 1 else leftOf left / 1000)

/-- The time left of the pump: of the maximum run, or else of the rest (R147). -/
def pumpLeft (tm : Tank) : Option Nat :=
  match tm.maxRunLeft with
  | some n => some n
  | none => tm.restLeft

/-- The target of the write in progress (Table 11-6, page 4). -/
def writingOctets : Option StoreWriting → List Byte
  | some w => targetOctets w.item.target
  | none => [0xFF#8, 0xFF#8]

/-- Page 4 of Table 11-6. -/
def statusPage4 (s : State) : List Byte :=
  [switchCode s.tm.present.debounced, switchCode s.tm.low.debounced, switchCode s.tm.high.debounced,
    switchCode s.tm.full.debounced, levelCode s.tm.level, boolCode s.tm.blocked, secondsLeft s.freeUsed s.tm.rearmLeft,
    pumpStateCode s.tm.pump, boolCode s.tm.serviceRun, secondsLeft (s.freeUsed + 1) (pumpLeft s.tm),
    octet s.tm.timeouts, octet s.nvs.queue.length] ++ writingOctets s.nvs.current

/-- Read Status (R174): page 0 clears the Overrun flag and the last error record it returns (R167, R169); the other pages
change nothing, but that the two roundings of page 4 count as drawn (log 14). -/
def answerReadStatus (fields : List Byte) (s : State) : Answer :=
  let page := byteAt 0 fields
  match page.toNat with
  | 0 => ⟨.done, page :: statusPage0 s,
      { s with pl := { s.pl with overrun := false, errorStatus := .done, errorRequest := 0#8 } }⟩
  | 1 => ⟨.done, page :: statusPage1 s, s⟩
  | 2 => ⟨.done, page :: (damperOctets s.dp.dampers.z0 ++ damperOctets s.dp.dampers.z1 ++ damperOctets s.dp.dampers.z2), s⟩
  | 3 => ⟨.done, page :: (damperOctets s.dp.dampers.z3 ++ damperOctets s.dp.dampers.z4 ++ damperOctets s.dp.dampers.z5), s⟩
  | 4 => ⟨.done, page :: statusPage4 s, { s with freeUsed := s.freeUsed + 2 }⟩
  | _ => refuse .badIndex s

/-! ### Taking a Request (R168) -/

/-- The owner of a request (Table 11-2) on the fields after its number. -/
def ownerAnswer (kind : RequestKind) (fields : List Byte) (s : State) : Answer :=
  match kind with
  | .setMode => answerSetMode fields s
  | .setZoneTargets => answerZoneTargets fields s
  | .loadZoneEntry => answerZoneEntry fields s
  | .loadPollList => answerPollList fields s
  | .loadFanCurve => answerFanCurve fields s
  | .loadRampProfile => answerRampProfile fields s
  | .loadFilterClass => answerFilterClass fields s
  | .loadDamperEntry => answerDamperEntry fields s
  | .loadUnitSettings => answerUnitSettings fields s
  | .readTable => answerReadTable fields s
  | .readStatus => answerReadStatus fields s
  | .readNode => answerReadNode fields s
  | .readZone => answerReadZone fields s
  | .readStage => answerReadStage fields s
  | .readFinishCauses => answerFinishCauses s
  | .readCounters => answerReadCounters s
  | .filterReplaced => answerFilterReplaced fields s
  | .forwardToNode => answerForward fields s
  | .setNoticeMask => answerNoticeMask fields s
  | .clearNotices => answerClearNotices fields s
  | .clearLockout => answerClearLockout s
  | .clearPumpFault => answerClearPumpFault s
  | .serviceDrive => answerDrive fields s
  | .injectSample => answerInject fields s
  | .storeRead => answerStoreRead fields s
  | .storeWrite => answerStoreWrite fields s
  | .zoneLineReset => answerLineReset s
  | .restart => answerRestart s

/-- The length of a payload is the one Table 11-2 fixes, where it fixes one (R168 step 3). -/
def lengthHolds (kind : RequestKind) (payload : List Byte) : Bool :=
  match fixedLength kind with
  | some n => payload.length == n
  | none => true

/-- Steps 1 to 4 of R168 on the payload of a Request. -/
def answer (payload : List Byte) (s : State) : Answer :=
  match payload with
  | [] => refuse .unknown s
  | number :: fields =>
    match requestOf number with
    | none => refuse .unknown s
    | some kind => if lengthHolds kind payload then ownerAnswer kind fields s else refuse .badLength s

/-- The request number a Reply carries (R168): the first payload octet, FFh for an empty payload. -/
def replyNumber (payload : List Byte) : Byte := payload.headD 0xFF#8

/-- The Reply with a status and reply data is placed (R168). -/
def replyWith (tag number : Byte) (status : Status) (data : List Byte) (s : State) : State :=
  { s with pl := placeReply tag number status data s.pl }

/-- A Request is taken and answered (R168). The frames that its effects put into the upward queue stand ahead of its Reply,
which is placed when all of them have been handled: section 11.3 lets them stand ahead of it or behind it, and this is the
model's choice (log 7). -/
def takeRequest (r : Request) (s : State) : State :=
  let a := answer r.payload s
  replyWith r.tag (replyNumber r.payload) a.status a.data a.state

/-- The Requests at the front of the queue are taken one after another while the conditions of R168 hold, at most
`n`. -/
def takeRequests : Nat → State → State
  | 0, s => s
  | n + 1, s =>
    match s.pl.requests with
    | [] => s
    | r :: rest =>
      if canTake s.pl then takeRequests n (takeRequest r { s with pl := { s.pl with requests := rest } }) else s

/-- All the Requests that can be taken now (R168). -/
def takeAll (s : State) : State := takeRequests s.pl.requests.length s

/-- A whole Request arrives (R166 to R168): it joins the queue or is dropped, and what can be taken is taken. -/
def receiveRequest (tag : Byte) (payload : List Byte) (s : State) : State :=
  takeAll { s with pl := queueRequest tag payload s.pl }

end Sys2Proof.Machine
end

