-- ==== Sys2Proof/Machine/Reset.lean ====
section
/-! DEFINITION. The two resets of the part (00_scope 4.7): power-on, which restores what the store holds, and the Restart
when it takes effect, which keeps the filter accounts, the run hours and the store. -/
namespace Sys2Proof.Machine

/-- The Tank Monitor after either reset, its raw inputs being what the pins show (R148, log 10). -/
def tankAfresh (tm : Tank) : Tank := Tank.reset tm.present.raw tm.low.raw tm.high.raw tm.full.raw

/-- The Damper Positioner after either reset, the home switches being what the pins show (R87, R88, log 9). -/
def dampersAfresh (dp : Positioner) : Positioner := ⟨dp.dampers.map fun d => Damper.reset d.homeSwitch⟩

/-- The Restart takes effect (R170): every block takes the Restart values of its chapter (R25, R44, R66, R88, R93, R102,
R104, R116, R135, R148, R149, R156, R163, R176); a fine stage that is Missing is delivered to the DMU (R116). -/
def restartNow (s : State) : State :=
  let fs : Filters :=
    { classes := s.fs.factoryClasses
      factoryClasses := s.fs.factoryClasses
      pre := restartStage s.fs.factoryClasses s.fs.pre
      fine := restartStage s.fs.factoryClasses s.fs.fine }
  settle (if fs.fine.state = .missing then [.filterMissing true] else [])
    { s with
      iu := Intake.reset
      dmu := Demand.reset
      bd := Blower.reset s.bd.runSeconds
      dp := dampersAfresh s.dp
      du := Dose.reset s.du.factoryCurve
      fs := fs
      ds := Sequencer.reset
      tm := tankAfresh s.tm
      mc := ModeControl.reset
      pl := Panel.reset }

/-- Power-on (R160): every block takes its power-on values; the fan curve, the classes, the run hours and the stage
records come from the store (R65, R93, R104, R113 to R115); the write queue is empty and an interrupted write is lost
(R161, R163). The commands that wait and the count of free values are the model's own and stay (log 27). -/
def powerOn (s : State) : State :=
  let classes := restoreClasses s.nvs.cells
  let pre := restoreStage false classes s.nvs.cells
  let fine := restoreStage true classes s.nvs.cells
  settle (pre.2 ++ fine.2)
    { s with
      iu := Intake.reset
      dmu := Demand.reset
      bd := Blower.reset (restoreRunHours s.nvs.cells)
      dp := dampersAfresh s.dp
      du := Dose.reset (restoreCurve s.nvs.cells)
      fs := ⟨classes, classes, pre.1, fine.1⟩
      ds := Sequencer.reset
      tm := tankAfresh s.tm
      mc := ModeControl.reset
      nvs := ⟨s.nvs.cells, [], none⟩
      pl := Panel.reset }

end Sys2Proof.Machine
end

