-- ==== Sys2Proof/Machine/LinkEvents.lean ====
section
/-! DEFINITION. The meanings of the resets, of the store's word timer and of the panel link's events (Chapters 10 and
11). An event whose timer does not run, or whose situation does not exist, has no effect (log 2). -/
namespace Sys2Proof.Machine

/-- POWER_ON (R160 and the reset rules of every chapter). -/
def execPowerOn (s : State) : Host.Outcome State Fault Refusal := .next (powerOn s)

/-- The frame in transmission is the Reply of the Restart that is pending (R170). -/
def restartReplyLeaves (pl : Panel) : Bool :=
  match pl.sending with
  | some x => pl.restartPending && isRestartReply x.frame
  | none => false

/-- RESTART_TAKES_EFFECT (R170): the last octet of the Reply of the pending Restart has been sent. While that Reply or
frames ahead of it still wait, the command has no effect (log 2). -/
def execRestartTakesEffect (s : State) : Host.Outcome State Fault Refusal :=
  if restartReplyLeaves s.pl then .next (restartNow s) else .next s

/-- NVS_WORD_DONE (R161, R162). -/
def execNvsWordDone (s : State) : Host.Outcome State Fault Refusal := .next { s with nvs := wordDone s.nvs }

/-- The length that the length octet of a frame being assembled gives (Table 11-4). -/
def payloadLength (octets : List Byte) : Nat := (byteAt 1 octets).toNat

/-- A complete frame at the receiver (R166): its check and its kind are judged, and a Request is handed on. -/
def takeFrame (octets : List Byte) (s : State) : State :=
  let heard := { s.pl with receiver := .hunting }
  if checkHolds octets then
    if byteAt 2 octets = 0x01#8 then
      receiveRequest (byteAt 3 octets) ((octets.drop 4).take (payloadLength octets)) { s with pl := heard }
    else { s with pl := { heard with kindFail := heard.kindFail + 1#16 } }
  else { s with pl := { heard with checkFail := heard.checkFail + 1#16 } }

/-- More than 10 ms pass between two octets of a frame (R166). -/
def panelGapOver (pl : Panel) : Panel :=
  match pl.receiver with
  | .assembling _ _ => { pl with receiver := .hunting, checkFail := pl.checkFail + 1#16 }
  | .hunting => pl

/-- The frame being assembled at the instant an octet arrives: none when more than 10 ms have passed since its last octet,
and then it is discarded and the octet is hunted (R166). -/
def heardInTime (pl : Panel) : Panel :=
  match pl.receiver with
  | .assembling _ 0 => panelGapOver pl
  | _ => pl

/-- An octet is taken by a receiver whose gap has not run out (R166). -/
def takeOctet (octet : Byte) (s : State) : State :=
  match s.pl.receiver with
  | .hunting => if octet = 0x3C#8 then { s with pl := { s.pl with receiver := .assembling [octet] panelGap } } else s
  | .assembling octets _ =>
    let now := octets ++ [octet]
    if 56 < payloadLength now then
      { s with pl := { s.pl with receiver := .hunting, checkFail := s.pl.checkFail + 1#16 } }
    else if 2 ≤ now.length ∧ 6 + payloadLength now ≤ now.length then takeFrame now s
    else { s with pl := { s.pl with receiver := .assembling now panelGap } }

/-- An octet arrives on the panel link (R166). -/
def panelOctet (octet : Byte) (s : State) : State := takeOctet octet { s with pl := heardInTime s.pl }

/-- PANEL_OCTET (R166 to R168). -/
def execPanelOctet (octet : Byte) (s : State) : Host.Outcome State Fault Refusal := .next (panelOctet octet s)

/-- PANEL_GAP_TIMEOUT (R166). -/
def execPanelGapTimeout (s : State) : Host.Outcome State Fault Refusal := .next { s with pl := panelGapOver s.pl }

/-- The last octet of an upward frame has been sent (R168, R170 to R172): the Reply of a pending Restart is its effect;
after any other frame the next begins, Notices are formed and Requests are taken as there is room. -/
def frameEnd (s : State) : State :=
  if restartReplyLeaves s.pl then restartNow s
  else if s.pl.sending.isSome then takeAll { s with pl := pump { s.pl with sending := none } }
  else s

/-- UPWARD_FRAME_END (R168, R170 to R172). -/
def execUpwardFrameEnd (s : State) : Host.Outcome State Fault Refusal := .next (frameEnd s)

/-- NOTICE_FORM (R172). -/
def execNoticeForm (s : State) : Host.Outcome State Fault Refusal := .next { s with pl := pump s.pl }

/-- UNKNOWN_REQUEST (R168): a Request with an empty payload, with a number not in Table 11-2, or of a wrong length. -/
def execUnknownRequest (tag : Byte) (payload : List Byte) (s : State) : Host.Outcome State Fault Refusal :=
  .next (receiveRequest tag payload s)

end Sys2Proof.Machine
end

