-- ==== Sys2Proof/Machine/RequestCommands.lean ====
section
/-! DEFINITION. The meanings of the Requests: each is the arrival of a whole Request with the payload of Table 11-5; it
joins the request queue (R167) and is taken by its owner as soon as the conditions of R168 hold (log 5). -/
namespace Sys2Proof.Machine

/-- SET_MODE (R150). -/
def execSetMode (tag mode : Byte) (source : Option Byte) (s : State) : Host.Outcome State Fault Refusal :=
  .next (receiveRequest tag (payloadSetMode mode source) s)

/-- SET_ZONE_TARGETS (R27). -/
def execSetZoneTargets (tag zone : Byte) (pmTarget rhTarget : Half) (s : State) : Host.Outcome State Fault Refusal :=
  .next (receiveRequest tag (payloadSetZoneTargets zone pmTarget rhTarget) s)

/-- LOAD_ZONE_ENTRY (R26, R29). -/
def execLoadZoneEntry (tag zone enabled address : Byte) (pmTarget : Half) (gain : Byte) (rhTarget : Half) (drying : Byte)
    (s : State) : Host.Outcome State Fault Refusal :=
  .next (receiveRequest tag (payloadLoadZoneEntry zone enabled address pmTarget gain rhTarget drying) s)

/-- LOAD_POLL_LIST (R3, R4). -/
def execLoadPollList (tag count : Byte) (entries : List (Byte × Byte)) (s : State) : Host.Outcome State Fault Refusal :=
  .next (receiveRequest tag (payloadLoadPollList count entries) s)

/-- LOAD_FAN_CURVE (R92). -/
def execLoadFanCurve (tag : Byte) (points : List Half) (s : State) : Host.Outcome State Fault Refusal :=
  .next (receiveRequest tag (payloadLoadFanCurve points) s)

/-- LOAD_RAMP_PROFILE (R49). -/
def execLoadRampProfile (tag profile count : Byte) (bands : List (Half × Byte × Byte))
    (s : State) : Host.Outcome State Fault Refusal :=
  .next (receiveRequest tag (payloadLoadRampProfile profile count bands) s)

/-- LOAD_FILTER_CLASS (R103). -/
def execLoadFilterClass (tag number : Byte) (fields : ClassFields) (s : State) : Host.Outcome State Fault Refusal :=
  .next (receiveRequest tag (payloadLoadFilterClass number fields) s)

/-- LOAD_DAMPER_ENTRY (R67, R68). -/
def execLoadDamperEntry (tag damper fitted : Byte) (travel bleed rest : Half)
    (s : State) : Host.Outcome State Fault Refusal :=
  .next (receiveRequest tag (payloadLoadDamperEntry damper fitted travel bleed rest) s)

/-- LOAD_UNIT_SETTINGS (R156, R157). -/
def execLoadUnitSettings (tag : Byte) (fields : SettingsFields) (s : State) : Host.Outcome State Fault Refusal :=
  .next (receiveRequest tag (payloadLoadUnitSettings fields) s)

/-- READ_TABLE (R175). -/
def execReadTable (tag selector index : Byte) (s : State) : Host.Outcome State Fault Refusal :=
  .next (receiveRequest tag (payloadReadTable selector index) s)

/-- READ_STATUS (R174). -/
def execReadStatus (tag page : Byte) (s : State) : Host.Outcome State Fault Refusal :=
  .next (receiveRequest tag (payloadReadStatus page) s)

/-- READ_NODE (R19). -/
def execReadNode (tag address : Byte) (s : State) : Host.Outcome State Fault Refusal :=
  .next (receiveRequest tag (payloadReadNode address) s)

/-- READ_ZONE (R28). -/
def execReadZone (tag zone : Byte) (s : State) : Host.Outcome State Fault Refusal :=
  .next (receiveRequest tag (payloadReadZone zone) s)

/-- READ_STAGE (R105). -/
def execReadStage (tag stage : Byte) (s : State) : Host.Outcome State Fault Refusal :=
  .next (receiveRequest tag (payloadReadStage stage) s)

/-- READ_FINISH_CAUSES (R62, R83, R134, R147). -/
def execReadFinishCauses (tag : Byte) (s : State) : Host.Outcome State Fault Refusal :=
  .next (receiveRequest tag payloadReadFinishCauses s)

/-- READ_COUNTERS (R19). -/
def execReadCounters (tag : Byte) (s : State) : Host.Outcome State Fault Refusal :=
  .next (receiveRequest tag payloadReadCounters s)

/-- FILTER_REPLACED (R111). -/
def execFilterReplaced (tag stage number : Byte) (stamp : Word) (s : State) : Host.Outcome State Fault Refusal :=
  .next (receiveRequest tag (payloadFilterReplaced stage number stamp) s)

/-- FORWARD_TO_NODE (R20). -/
def execForwardToNode (tag address length : Byte) (data : List Byte) (s : State) : Host.Outcome State Fault Refusal :=
  .next (receiveRequest tag (payloadForwardToNode address length data) s)

/-- SET_NOTICE_MASK (R173). -/
def execSetNoticeMask (tag : Byte) (mask : BitVec 24) (s : State) : Host.Outcome State Fault Refusal :=
  .next (receiveRequest tag (payloadSetNoticeMask mask) s)

/-- CLEAR_NOTICES (R173). -/
def execClearNotices (tag : Byte) (kinds : BitVec 24) (s : State) : Host.Outcome State Fault Refusal :=
  .next (receiveRequest tag (payloadClearNotices kinds) s)

/-- CLEAR_LOCKOUT (R132). -/
def execClearLockout (tag : Byte) (s : State) : Host.Outcome State Fault Refusal :=
  .next (receiveRequest tag payloadClearLockout s)

/-- CLEAR_PUMP_FAULT (R144). -/
def execClearPumpFault (tag : Byte) (s : State) : Host.Outcome State Fault Refusal :=
  .next (receiveRequest tag payloadClearPumpFault s)

/-- SERVICE_BLOWER_DEMAND (R153, R154). -/
def execServiceBlowerDemand (tag : Byte) (demand : Half) (s : State) : Host.Outcome State Fault Refusal :=
  .next (receiveRequest tag (payloadServiceBlower demand) s)

/-- SERVICE_DAMPER_TARGETS (R153, R154). -/
def execServiceDamperTargets (tag : Byte) (targets : List (Byte × Half))
    (s : State) : Host.Outcome State Fault Refusal :=
  .next (receiveRequest tag (payloadServiceDampers targets) s)

/-- SERVICE_PUMP_ON (R146, R153, R154). -/
def execServicePumpOn (tag : Byte) (s : State) : Host.Outcome State Fault Refusal :=
  .next (receiveRequest tag (payloadServicePump true) s)

/-- SERVICE_PUMP_OFF (R146, R153, R154). -/
def execServicePumpOff (tag : Byte) (s : State) : Host.Outcome State Fault Refusal :=
  .next (receiveRequest tag (payloadServicePump false) s)

/-- SERVICE_COMPRESSOR_ON (R133, R153, R154). -/
def execServiceCompressorOn (tag : Byte) (s : State) : Host.Outcome State Fault Refusal :=
  .next (receiveRequest tag (payloadServiceCompressor true) s)

/-- SERVICE_COMPRESSOR_OFF (R133, R153, R154). -/
def execServiceCompressorOff (tag : Byte) (s : State) : Host.Outcome State Fault Refusal :=
  .next (receiveRequest tag (payloadServiceCompressor false) s)

/-- INJECT_SAMPLE (R23). -/
def execInjectSample (tag address : Byte) (fields : SampleFields) (s : State) : Host.Outcome State Fault Refusal :=
  .next (receiveRequest tag (payloadInjectSample address fields) s)

/-- STORE_READ (R165). -/
def execStoreRead (tag : Byte) (address : Half) (count : Byte) (s : State) : Host.Outcome State Fault Refusal :=
  .next (receiveRequest tag (payloadStoreRead address count) s)

/-- STORE_WRITE (R164). -/
def execStoreWrite (tag : Byte) (address : Half) (data : Word) (s : State) : Host.Outcome State Fault Refusal :=
  .next (receiveRequest tag (payloadStoreWrite address data) s)

/-- ZONE_LINE_RESET (R24). -/
def execZoneLineReset (tag : Byte) (s : State) : Host.Outcome State Fault Refusal :=
  .next (receiveRequest tag payloadZoneLineReset s)

/-- RESTART (R170). -/
def execRestart (tag : Byte) (s : State) : Host.Outcome State Fault Refusal :=
  .next (receiveRequest tag payloadRestart s)

end Sys2Proof.Machine
end

