-- ==== Sys2Proof/Machine/WaterEvents.lean ====
section
/-! DEFINITION. The meanings of the Drying Sequencer's timers, of the tank switches and of the pump's timers (Chapters 7
and 8). An event whose timer does not run has no effect (log 2). -/
namespace Sys2Proof.Machine

/-- What a timer of the Drying Sequencer does, with all that it delivers; the coil minimum is that of the settings. -/
def afterSequencer (r : Sequencer × List Signal) (s : State) : State := settle r.2 { s with ds := r.1 }

/-- What an event at the Tank Monitor does, with all that it delivers. -/
def afterTank (r : Tank × List Signal) (s : State) : State := settle r.2 { s with tm := r.1 }

/-- OFF_TIMER_EXPIRY (R119, R120). -/
def execOffTimerExpiry (s : State) : Host.Outcome State Fault Refusal :=
  .next (afterSequencer (offExpiry s.mc.settings.coilMinimum s.ds) s)

/-- ON_TIMER_EXPIRY (R124). -/
def execOnTimerExpiry (s : State) : Host.Outcome State Fault Refusal :=
  .next (afterSequencer (onExpiry s.mc.settings.coilMinimum s.ds) s)

/-- AIRFLOW_WAIT_EXPIRY (R121). -/
def execAirflowWaitExpiry (s : State) : Host.Outcome State Fault Refusal :=
  .next (afterSequencer (waitExpiry s.mc.settings.coilMinimum s.ds) s)

/-- AIRFLOW_GRACE_EXPIRY (R125, R133). -/
def execAirflowGraceExpiry (s : State) : Host.Outcome State Fault Refusal :=
  .next (afterSequencer (graceExpiry s.mc.settings.coilMinimum s.ds) s)

/-- FROST_DWELL_EXPIRY (R127, R128). -/
def execFrostDwellExpiry (s : State) : Host.Outcome State Fault Refusal := .next (afterSequencer (frostExpiry s.ds) s)

/-- DEFROST_MAX_EXPIRY (R129). -/
def execDefrostMaxExpiry (s : State) : Host.Outcome State Fault Refusal :=
  .next (afterSequencer (defrostExpiry s.mc.settings.coilMinimum s.ds) s)

/-- TANK_SWITCH_CHANGE (R136). -/
def execTankSwitchChange (switch : TankSwitch) (closed : Bool) (s : State) : Host.Outcome State Fault Refusal :=
  .next { s with tm := switchInput switch closed s.tm }

/-- STABILITY_TIMER_EXPIRY (R136 to R138, R141 to R144). -/
def execStabilityTimerExpiry (switch : TankSwitch) (s : State) : Host.Outcome State Fault Refusal :=
  .next (afterTank (stabilityExpiry s.mc.settings.pumpFitted s.mc.mode switch s.tm) s)

/-- REARM_EXPIRY (R139). -/
def execRearmExpiry (s : State) : Host.Outcome State Fault Refusal := .next (afterTank (rearmExpiry s.tm) s)

/-- MAX_RUN_EXPIRY (R142, R144, R146). -/
def execMaxRunExpiry (s : State) : Host.Outcome State Fault Refusal := .next (afterTank (maxRunExpiry s.tm) s)

/-- REST_EXPIRY (R143). -/
def execRestExpiry (s : State) : Host.Outcome State Fault Refusal :=
  .next { s with tm := restExpiry s.mc.settings.pumpFitted s.mc.mode s.tm }

end Sys2Proof.Machine
end

