-- ==== Sys2Proof/Machine/Dispatch.lean ====
section
/-! DEFINITION. The effect of each command: one arm per constructor of `Instr`. -/
namespace Sys2Proof.Machine

def exec (i : Instr) (s : State) : Host.Outcome State Fault Refusal :=
  match i with
  | .powerOn => Sys2Proof.Machine.execPowerOn s
  | .restart tag => Sys2Proof.Machine.execRestart tag s
  | .restartTakesEffect => Sys2Proof.Machine.execRestartTakesEffect s
  | .cycleStart => Sys2Proof.Machine.execCycleStart s
  | .pollSent => Sys2Proof.Machine.execPollSent s
  | .zoneLineOctet octet => Sys2Proof.Machine.execZoneLineOctet octet s
  | .answerWindowExpiry => Sys2Proof.Machine.execAnswerWindowExpiry s
  | .frameTimerExpiry => Sys2Proof.Machine.execFrameTimerExpiry s
  | .answerGapEnd => Sys2Proof.Machine.execAnswerGapEnd s
  | .nodeMessageStart => Sys2Proof.Machine.execNodeMessageStart s
  | .nodeMessageEnd => Sys2Proof.Machine.execNodeMessageEnd s
  | .messageWaitEnd => Sys2Proof.Machine.execMessageWaitEnd s
  | .holdExpiry zone => Sys2Proof.Machine.execHoldExpiry zone s
  | .rampTick => Sys2Proof.Machine.execRampTick s
  | .tachEdge instant => Sys2Proof.Machine.execTachEdge instant s
  | .noCaptureExpiry => Sys2Proof.Machine.execNoCaptureExpiry s
  | .stallTimerExpiry => Sys2Proof.Machine.execStallTimerExpiry s
  | .retryTimerExpiry => Sys2Proof.Machine.execRetryTimerExpiry s
  | .healthyRunExpiry => Sys2Proof.Machine.execHealthyRunExpiry s
  | .runHoursSecond => Sys2Proof.Machine.execRunHoursSecond s
  | .moveStep damper home => Sys2Proof.Machine.execMoveStep damper home s
  | .homingStep damper home => Sys2Proof.Machine.execHomingStep damper home s
  | .seekStep damper home => Sys2Proof.Machine.execSeekStep damper home s
  | .offTimerExpiry => Sys2Proof.Machine.execOffTimerExpiry s
  | .onTimerExpiry => Sys2Proof.Machine.execOnTimerExpiry s
  | .airflowWaitExpiry => Sys2Proof.Machine.execAirflowWaitExpiry s
  | .airflowGraceExpiry => Sys2Proof.Machine.execAirflowGraceExpiry s
  | .frostDwellExpiry => Sys2Proof.Machine.execFrostDwellExpiry s
  | .defrostMaxExpiry => Sys2Proof.Machine.execDefrostMaxExpiry s
  | .tankSwitchChange switch closed => Sys2Proof.Machine.execTankSwitchChange switch closed s
  | .stabilityTimerExpiry switch => Sys2Proof.Machine.execStabilityTimerExpiry switch s
  | .rearmExpiry => Sys2Proof.Machine.execRearmExpiry s
  | .maxRunExpiry => Sys2Proof.Machine.execMaxRunExpiry s
  | .restExpiry => Sys2Proof.Machine.execRestExpiry s
  | .nvsWordDone => Sys2Proof.Machine.execNvsWordDone s
  | .panelOctet octet => Sys2Proof.Machine.execPanelOctet octet s
  | .panelGapTimeout => Sys2Proof.Machine.execPanelGapTimeout s
  | .upwardFrameEnd => Sys2Proof.Machine.execUpwardFrameEnd s
  | .noticeForm => Sys2Proof.Machine.execNoticeForm s
  | .unknownRequest tag payload => Sys2Proof.Machine.execUnknownRequest tag payload s
  | .setMode tag mode source => Sys2Proof.Machine.execSetMode tag mode source s
  | .setZoneTargets tag zone pmTarget rhTarget => Sys2Proof.Machine.execSetZoneTargets tag zone pmTarget rhTarget s
  | .loadZoneEntry tag zone enabled address pmTarget gain rhTarget drying => Sys2Proof.Machine.execLoadZoneEntry tag zone enabled address pmTarget gain rhTarget drying s
  | .loadPollList tag count entries => Sys2Proof.Machine.execLoadPollList tag count entries s
  | .loadFanCurve tag points => Sys2Proof.Machine.execLoadFanCurve tag points s
  | .loadRampProfile tag profile count bands => Sys2Proof.Machine.execLoadRampProfile tag profile count bands s
  | .loadFilterClass tag number fields => Sys2Proof.Machine.execLoadFilterClass tag number fields s
  | .loadDamperEntry tag damper fitted travel bleed rest => Sys2Proof.Machine.execLoadDamperEntry tag damper fitted travel bleed rest s
  | .loadUnitSettings tag fields => Sys2Proof.Machine.execLoadUnitSettings tag fields s
  | .readTable tag selector index => Sys2Proof.Machine.execReadTable tag selector index s
  | .readStatus tag page => Sys2Proof.Machine.execReadStatus tag page s
  | .readNode tag address => Sys2Proof.Machine.execReadNode tag address s
  | .readZone tag zone => Sys2Proof.Machine.execReadZone tag zone s
  | .readStage tag stage => Sys2Proof.Machine.execReadStage tag stage s
  | .readFinishCauses tag => Sys2Proof.Machine.execReadFinishCauses tag s
  | .readCounters tag => Sys2Proof.Machine.execReadCounters tag s
  | .filterReplaced tag stage number stamp => Sys2Proof.Machine.execFilterReplaced tag stage number stamp s
  | .forwardToNode tag address length data => Sys2Proof.Machine.execForwardToNode tag address length data s
  | .setNoticeMask tag mask => Sys2Proof.Machine.execSetNoticeMask tag mask s
  | .clearNotices tag kinds => Sys2Proof.Machine.execClearNotices tag kinds s
  | .clearLockout tag => Sys2Proof.Machine.execClearLockout tag s
  | .clearPumpFault tag => Sys2Proof.Machine.execClearPumpFault tag s
  | .serviceBlowerDemand tag demand => Sys2Proof.Machine.execServiceBlowerDemand tag demand s
  | .serviceDamperTargets tag targets => Sys2Proof.Machine.execServiceDamperTargets tag targets s
  | .servicePumpOn tag => Sys2Proof.Machine.execServicePumpOn tag s
  | .servicePumpOff tag => Sys2Proof.Machine.execServicePumpOff tag s
  | .serviceCompressorOn tag => Sys2Proof.Machine.execServiceCompressorOn tag s
  | .serviceCompressorOff tag => Sys2Proof.Machine.execServiceCompressorOff tag s
  | .injectSample tag address fields => Sys2Proof.Machine.execInjectSample tag address fields s
  | .storeRead tag address count => Sys2Proof.Machine.execStoreRead tag address count s
  | .storeWrite tag address data => Sys2Proof.Machine.execStoreWrite tag address data s
  | .zoneLineReset tag => Sys2Proof.Machine.execZoneLineReset tag s

end Sys2Proof.Machine
end

