-- ==== Sys2Proof/Machine/Step.lean ====
section
/-! DEFINITION. One step of the machine: the command at the front of the queue; on an empty queue one of the events that
are due, or one millisecond of the part's clock when nothing is due (log 1). -/
namespace Sys2Proof.Machine

/-- One step. -/
def step (s : State) : Host.Outcome State Fault Refusal :=
  match s.pending with
  | c :: rest => exec c { s with pending := rest }
  | [] =>
    match due s with
    | [] => .next (advance s)
    | e :: others => exec (choose s.freeUsed e others) (afterChoice others s)

/-- The state with the command that a word spells put at the front of its queue; unchanged where the word spells none
(log 31). -/
def State.withFetchWord (s : State) (nbits w : Nat) : State :=
  match decodeTableWord nbits w with
  | some c => { s with pending := c :: s.pending }
  | none => s

end Sys2Proof.Machine
end

