-- ==== Sys2Proof/Safety.lean ====
section
/-! DEFINITION. What the manual says holds of the unit at every instant: the laws that no step may break, each as a
condition on the block that owns the state. A condition named an invariant is a law with what it takes to be kept by
every step from every state that meets it. -/
namespace Sys2Proof.Machine

/-! ### Dampers (Chapter 4) -/

/-- The law of the dampers: a damper in Settled or Moving has a position between 0 and its travel, and a share no greater
than its position expressed in permille of travel (R74). -/
def damperLaw (d : Damper) : Bool :=
  if d.state = .settled ∨ d.state = .moving then
    match d.position with
    | some p => decide (p ≤ d.entry.travel) && decide (d.share ≤ p * 1000 / d.entry.travel)
    | none => false
  else true

/-- The law of the dampers with what keeps it: a target never above the travel, a position in Waiting too, and in Moving
a share that fits the target as well (R73, R74, R77). -/
def damperInvariant (d : Damper) : Bool :=
  (match d.target with
    | some t => decide (t ≤ d.entry.travel)
    | none => true) &&
  (match d.state, d.position with
    | .settled, some p => decide (p ≤ d.entry.travel) && decide (d.share ≤ openingOfSteps d.entry.travel p)
    | .moving, some p => decide (p ≤ d.entry.travel) && decide (d.share ≤ requiredOpening d)
    | .waiting, some p => decide (p ≤ d.entry.travel)
    | .settled, none => false
    | .moving, none => false
    | .waiting, none => false
    | _, _ => true)

/-- The damper invariant of all six. -/
def dampersInvariant (dp : Positioner) : Bool := dp.dampers.toList.all damperInvariant

/-! ### The air allowance (Chapters 3 and 4) -/

/-- The reduction of a damper that its latest ramp tick took into the allowance, or 0 (R78). -/
def coveredOf (d : Damper) : Nat := d.covered.getD 0

/-- The sum of the six covered reductions. -/
def coveredSum (d : Six Damper) : Nat :=
  coveredOf d.z0 + coveredOf d.z1 + coveredOf d.z2 + coveredOf d.z3 + coveredOf d.z4 + coveredOf d.z5

/-- The law of the allowance: the applied duty never exceeds the lesser of 1000 and the fixed share plus the sum of all
damper shares (R50). -/
def allowanceLaw (s : State) : Bool :=
  decide (s.bd.applied ≤ min 1000 (s.mc.settings.fixedShare + shareSum s.dp.dampers))

/-- What keeps the law of the allowance at one damper: the damper invariant; a pending and a covered reduction only in
Waiting and at most the share (R77, R78); a share of 0 where the position is not known or the damper is Faulted (Table 4-3,
R82); and a seek only at position 0 (R81). -/
def damperAllowance (d : Damper) : Bool :=
  damperInvariant d
    && (if d.state = .waiting then decide (d.pending ≤ d.share) && decide (coveredOf d ≤ d.share)
        else d.pending == 0 && d.covered.isNone)
    && (!(d.state == .unfitted || d.state == .unhomed || d.state == .homing || d.state == .faulted) || d.share == 0)
    && (!(d.state == .moving && d.seeking) || d.position == some 0)

/-- What keeps the law of the allowance: every damper as above; the applied duty at most 1000, and 0 in Retry-Wait and Fault
(Table 3-2); and the applied duty with the covered reductions at most the fixed share plus the shares (R79). -/
def allowanceInvariant (s : State) : Bool :=
  s.dp.dampers.toList.all damperAllowance && decide (s.bd.applied ≤ 1000)
    && (s.bd.state == .stopped || s.bd.state == .running || s.bd.applied == 0)
    && decide (s.bd.applied + coveredSum s.dp.dampers ≤ s.mc.settings.fixedShare + shareSum s.dp.dampers)

/-! ### Pump (Chapter 8) -/

/-- The pump runs only with the tank seated and with its maximum-run timer running at no more than 90 s (R142). -/
def pumpInvariant (tm : Tank) : Bool :=
  if tm.pump = .running then
    tm.level != .absent && (match tm.maxRunLeft with
      | some n => decide (n ≤ 90000)
      | none => false)
  else true

/-! ### Compressor (Chapter 7) -/

/-- The compressor output is never on while the tank the DS holds is blocked (R123), nor while the off timer runs
(R120). -/
def compressorLaw (ds : Sequencer) : Bool := !ds.compressor || (!ds.tankBlocked && ds.offLeft.isNone)

/-- The airflow law of the compressor: whenever the output is on, the applied duty that the DS holds is at least the coil
minimum, or the airflow grace runs with no more than its 10 s left (R125). -/
def airflowLaw (coilMinimum : Nat) (ds : Sequencer) : Bool :=
  !ds.compressor || decide (coilMinimum ≤ ds.applied) || (match ds.graceLeft with
    | some n => decide (n ≤ 10000)
    | none => false)

/-- The two laws of the compressor with what keeps them: the output is on exactly in Running and as the service compressor
(R117); the service compressor is on only in Idle (R133); the start conditions hold in Ready-Wait and Airflow-Wait (R120,
R121); the off timer does not run in Airflow-Wait (R120); the tank is blocked in Tank-Hold (R131); a grace that runs has at
most its 10 s left (R125); and in the mode Service, which the DS then holds as well, it is Idle, in Tank-Hold or in Lockout
(R133). -/
def compressorInvariant (mode : UnitMode) (coilMinimum : Nat) (ds : Sequencer) : Bool :=
  compressorLaw ds && airflowLaw coilMinimum ds && (ds.compressor == (ds.state == .running || ds.service))
    && (!ds.service || ds.state == .idle)
    && (!(ds.state == .readyWait || ds.state == .airflowWait) || startConditions ds)
    && (!(ds.state == .airflowWait) || ds.offLeft.isNone) && (!(ds.state == .tankHold) || ds.tankBlocked)
    && decide (leftOf ds.graceLeft ≤ 10000) && (!(mode == .service) || ds.mode == .service)
    && (!(ds.mode == .service) || ds.state == .idle || ds.state == .tankHold || ds.state == .lockout)

/-! ### Filter accounts (Chapters 5 and 6) -/

/-- Every dose remainder is less than 3,600,000,000 and every dose at most 4,294,967,295 (R98); the held pressure life and
the life are at most 1999 (R100, R101). -/
def stageInvariant (r : StageRecord) : Bool :=
  decide (r.remainder < 3600000000) && decide (r.dose ≤ 4294967295) && decide (r.held ≤ 1999) && decide (r.life ≤ 1999)

/-- The laws of both accounts. -/
def filtersInvariant (fs : Filters) : Bool := stageInvariant fs.pre && stageInvariant fs.fine

/-! ### Tables -/

/-- A zone table entry lies in the ranges of Table 2-1. -/
def zoneEntryInRange (e : ZoneEntry) : Bool :=
  decide (e.node ≤ 30) && decide (5 ≤ e.pmTarget) && decide (e.pmTarget ≤ 500) && decide (1 ≤ e.gain)
    && decide (e.gain ≤ 255) && decide (300 ≤ e.rhTarget) && decide (e.rhTarget ≤ 700)

/-- A damper table entry lies in the ranges of Table 4-1. -/
def damperEntryInRange (e : DamperEntry) : Bool :=
  decide (200 ≤ e.travel) && decide (e.travel ≤ 2000) && decide (e.bleed ≤ 500) && decide (e.rest ≤ 1000)

/-- The unit settings lie in the ranges of Table 9-2. -/
def settingsInRange (u : Settings) : Bool :=
  decide (1 ≤ u.nodeAddress) && decide (u.nodeAddress ≤ 30) && decide (200 ≤ u.runCap) && decide (u.runCap ≤ 1000)
    && decide (200 ≤ u.quietCap) && decide (u.quietCap ≤ 1000) && decide (u.idleDuty ≤ 400)
    && decide (200 ≤ u.coilMinimum) && decide (u.coilMinimum ≤ 600) && decide (u.coilMinimum ≤ u.quietCap)
    && decide (u.fixedShare ≤ 1000) && decide (10 ≤ u.holdTime) && decide (u.holdTime ≤ 600)
    && decide (-700 ≤ u.callOff) && decide (u.callOff < u.callOn) && decide (u.callOn ≤ 700)
    && decide (1 ≤ u.wakeThreshold) && decide (u.wakeThreshold ≤ 1000)
    && (u.edges == 1 || u.edges == 2 || u.edges == 4) && decide (1 ≤ u.pulses) && decide (u.pulses ≤ 4)

/-- A fan curve has 17 points of at most 1500 m³/h (R92). -/
def curveInRange (curve : List Nat) : Bool := curve.length == 17 && curve.all fun p => decide (p ≤ 1500)

/-- Every table lies in its ranges: the zone table, the ramp profiles (R49), the damper table, the fan curve and its
factory copy, the filter classes and their factory copy (Table 6-1), and the unit settings. -/
def tablesInRange (s : State) : Bool :=
  s.dmu.zones.toList.all (fun z => zoneEntryInRange z.entry) && s.bd.profiles.toList.all profileInRange
    && s.dp.dampers.toList.all (fun d => damperEntryInRange d.entry) && curveInRange s.du.curve
    && curveInRange s.du.factoryCurve && s.fs.classes.toList.all classInRange
    && s.fs.factoryClasses.toList.all classInRange && settingsInRange s.mc.settings

/-! ### Queues (Chapters 1, 10 and 11) -/

/-- The upward queue's limits: at most 16 Relays, 4 Replies and 4 Notices (R171). -/
def upwardInvariant (pl : Panel) : Bool :=
  decide (countFrames .relay pl.upward ≤ 16) && decide (countFrames .reply pl.upward ≤ 4)
    && decide (countFrames .notice pl.upward ≤ 4)

/-- The pending notice set never holds two entries of the same kind and subject (R172). -/
def noticesDistinct (pl : Panel) : Prop := pl.pending.Nodup

/-- A waiting item is a panel item. -/
def isPanelItem (item : StoreItem) : Bool :=
  match item.target with
  | .panel _ => true
  | _ => false

/-- The write queue holds at most one item for a target and at most one panel item (R162). -/
def writeQueueInvariant (nvs : Store) : Prop :=
  (nvs.queue.map StoreItem.target).Nodup ∧ (nvs.queue.filter isPanelItem).length ≤ 1

/-- The bounds of the request queue (R167) and of the down queue (R20). -/
def queuesBounded (s : State) : Prop := s.pl.requests.length ≤ 4 ∧ s.iu.down.length ≤ 4

end Sys2Proof.Machine
end

