-- ==== Sys2Proof/WellFormed.lean ====
section
/-! DEFINITION. Well-formed commands: those the table's row can be. A Request's payload fits a frame of the panel link (at
most 56 octets, R166), a list operand has the number of items its row needs, and an unknown Request is one that R168
answers Unknown or BadLength by itself. A field out of its range is no matter of form: its owner refuses it by its
rule. The meanings are total on ill-formed commands too. -/
namespace Sys2Proof

/-- A Request payload that R168 answers itself: empty, of an unknown number, or of a length other than the one
Table 11-2 fixes. -/
def unknownPayload (payload : List Byte) : Bool :=
  match payload with
  | [] => true
  | number :: _ =>
    match Machine.requestOf number with
    | none => true
    | some kind =>
      match Machine.fixedLength kind with
      | some n => payload.length != n
      | none => false

/-- The payload of a command that is a Request; none for any other command. -/
def requestPayload : Instr → Option (List Byte)
  | .powerOn => none
  | .restartTakesEffect => none
  | .cycleStart => none
  | .pollSent => none
  | .zoneLineOctet _ => none
  | .answerWindowExpiry => none
  | .frameTimerExpiry => none
  | .answerGapEnd => none
  | .nodeMessageStart => none
  | .nodeMessageEnd => none
  | .messageWaitEnd => none
  | .holdExpiry _ => none
  | .rampTick => none
  | .tachEdge _ => none
  | .noCaptureExpiry => none
  | .stallTimerExpiry => none
  | .retryTimerExpiry => none
  | .healthyRunExpiry => none
  | .runHoursSecond => none
  | .moveStep _ _ => none
  | .homingStep _ _ => none
  | .seekStep _ _ => none
  | .offTimerExpiry => none
  | .onTimerExpiry => none
  | .airflowWaitExpiry => none
  | .airflowGraceExpiry => none
  | .frostDwellExpiry => none
  | .defrostMaxExpiry => none
  | .tankSwitchChange _ _ => none
  | .stabilityTimerExpiry _ => none
  | .rearmExpiry => none
  | .maxRunExpiry => none
  | .restExpiry => none
  | .nvsWordDone => none
  | .panelOctet _ => none
  | .panelGapTimeout => none
  | .upwardFrameEnd => none
  | .noticeForm => none
  | .unknownRequest _ payload => some payload
  | .setMode _ mode source => some (Machine.payloadSetMode mode source)
  | .setZoneTargets _ zone pm rh => some (Machine.payloadSetZoneTargets zone pm rh)
  | .loadZoneEntry _ zone enabled address pm gain rh drying =>
    some (Machine.payloadLoadZoneEntry zone enabled address pm gain rh drying)
  | .loadPollList _ count entries => some (Machine.payloadLoadPollList count entries)
  | .loadFanCurve _ points => some (Machine.payloadLoadFanCurve points)
  | .loadRampProfile _ profile count bands => some (Machine.payloadLoadRampProfile profile count bands)
  | .loadFilterClass _ number fields => some (Machine.payloadLoadFilterClass number fields)
  | .loadDamperEntry _ damper fitted travel bleed rest =>
    some (Machine.payloadLoadDamperEntry damper fitted travel bleed rest)
  | .loadUnitSettings _ fields => some (Machine.payloadLoadUnitSettings fields)
  | .readTable _ selector index => some (Machine.payloadReadTable selector index)
  | .readStatus _ page => some (Machine.payloadReadStatus page)
  | .readNode _ address => some (Machine.payloadReadNode address)
  | .readZone _ zone => some (Machine.payloadReadZone zone)
  | .readStage _ stage => some (Machine.payloadReadStage stage)
  | .readFinishCauses _ => some Machine.payloadReadFinishCauses
  | .readCounters _ => some Machine.payloadReadCounters
  | .filterReplaced _ stage number stamp => some (Machine.payloadFilterReplaced stage number stamp)
  | .forwardToNode _ address length data => some (Machine.payloadForwardToNode address length data)
  | .setNoticeMask _ mask => some (Machine.payloadSetNoticeMask mask)
  | .clearNotices _ kinds => some (Machine.payloadClearNotices kinds)
  | .clearLockout _ => some Machine.payloadClearLockout
  | .clearPumpFault _ => some Machine.payloadClearPumpFault
  | .serviceBlowerDemand _ demand => some (Machine.payloadServiceBlower demand)
  | .serviceDamperTargets _ targets => some (Machine.payloadServiceDampers targets)
  | .servicePumpOn _ => some (Machine.payloadServicePump true)
  | .servicePumpOff _ => some (Machine.payloadServicePump false)
  | .serviceCompressorOn _ => some (Machine.payloadServiceCompressor true)
  | .serviceCompressorOff _ => some (Machine.payloadServiceCompressor false)
  | .injectSample _ address fields => some (Machine.payloadInjectSample address fields)
  | .storeRead _ address count => some (Machine.payloadStoreRead address count)
  | .storeWrite _ address data => some (Machine.payloadStoreWrite address data)
  | .zoneLineReset _ => some Machine.payloadZoneLineReset
  | .restart _ => some Machine.payloadRestart

/-- The tag of a command that is a Request. -/
def requestTag : Instr → Option Byte
  | .unknownRequest tag _ => some tag
  | .setMode tag _ _ => some tag
  | .setZoneTargets tag _ _ _ => some tag
  | .loadZoneEntry tag _ _ _ _ _ _ _ => some tag
  | .loadPollList tag _ _ => some tag
  | .loadFanCurve tag _ => some tag
  | .loadRampProfile tag _ _ _ => some tag
  | .loadFilterClass tag _ _ => some tag
  | .loadDamperEntry tag _ _ _ _ _ => some tag
  | .loadUnitSettings tag _ => some tag
  | .readTable tag _ _ => some tag
  | .readStatus tag _ => some tag
  | .readNode tag _ => some tag
  | .readZone tag _ => some tag
  | .readStage tag _ => some tag
  | .readFinishCauses tag => some tag
  | .readCounters tag => some tag
  | .filterReplaced tag _ _ _ => some tag
  | .forwardToNode tag _ _ _ => some tag
  | .setNoticeMask tag _ => some tag
  | .clearNotices tag _ => some tag
  | .clearLockout tag => some tag
  | .clearPumpFault tag => some tag
  | .serviceBlowerDemand tag _ => some tag
  | .serviceDamperTargets tag _ => some tag
  | .servicePumpOn tag => some tag
  | .servicePumpOff tag => some tag
  | .serviceCompressorOn tag => some tag
  | .serviceCompressorOff tag => some tag
  | .injectSample tag _ _ => some tag
  | .storeRead tag _ _ => some tag
  | .storeWrite tag _ _ => some tag
  | .zoneLineReset tag => some tag
  | .restart tag => some tag
  | _ => none

/-- What a row asks of its operands beyond the length of a payload. -/
def operandsFit : Instr → Bool
  | .unknownRequest _ payload => unknownPayload payload
  | .loadFanCurve _ points => points.length == 17
  | _ => true

/-- A well-formed command. -/
def Instr.wellFormed (i : Instr) : Bool :=
  operandsFit i && (match requestPayload i with
    | some payload => decide (payload.length ≤ 56)
    | none => true)

end Sys2Proof
end

