-- ==== Sys2Proof/Certificates/Slice0/Obligations.lean ====
section
/-! DEFINITION. The statements for the provers, each a numbered rule of the manual or what follows from several, over every
state unless a premise says otherwise. -/
section Statements
open Sys2Proof Sys2Proof.Machine

/-! ### The step, the queue and the resets -/

/-- A step takes the command at the front of the queue and answers what that command's effect answers, the rest of the
queue waiting. -/
def Obligations.StepRunsTheFrontCommand : Prop :=
  ∀ (c : Instr) (rest : List Instr) (s : State),
    s.pending = c :: rest → step s = exec c { s with pending := rest }

/-- With no command waiting, a step takes the event that is due, any one of several that are due at once (the choice
counts as a free value drawn), and lets one millisecond pass when nothing is due. This is the model's choice (log 1,
log 3).
A millisecond adds 1 to the time base (R17), takes 1 off every timer that runs, and adds 1 to the run-hour fraction, up to
1000, while the applied duty is above 0 (R63); a next start time that it reaches is owed (R5); the octets of a Poll or Node
Message that begin in it leave the pin in the polarity in force (R16), one at the start of a frame and one more every 260.4
µs (log 4). It leaves everything else as it was: the poll list, the node records, the counters and the down queue, the duty
and the state of the blower, the dampers, the states and inputs of the sequencer and of the tank and pump, the zones, the
filters, the settings, the store and every queue. That the fraction stands at 1000 until the second is counted, also when the
duty has just fallen to 0, is the model's choice (log 35).
A timed event is due exactly when its timer runs with 0 left: the timers of the line's phases, of the blower, of each damper
that steps, of the sequencer, of the tank and pump, of the store and of the panel link; a hold expiry when the time base
stands at it (R32); a second of running time at the fraction 1000 (log 35); a cycle start when it is owed on a free line where
cycles run (R5). The end of an upward frame is due as UPWARD_FRAME_END, but the end of the Reply of a pending Restart as
RESTART_TAKES_EFFECT (log 28). No other command is ever due. -/
def Obligations.IdleStepFollowsTheClock : Prop :=
  (∀ s : State, s.pending = [] →
    (due s = [] → step s = .next (advance s))
    ∧ (∀ e, due s = [e] → step s = exec e s)
    ∧ (∀ e e' more, due s = e :: e' :: more → ∃ c ∈ due s, step s = exec c { s with freeUsed := s.freeUsed + 1 }))
  ∧ (∀ (s t : State) (less : Option Nat → Option Nat) (begun : Nat → List Byte), t = advance s →
    less = Option.map (· - 1) →
    begun = (fun left => s.iu.onWire
      ++ ((s.iu.sending.take ((zoneLineTime s.iu.sending.length - left) * 10000 / 2604 + 1)).drop s.iu.onWire.length).map
        fun o => if s.iu.polarity = .inverted then ~~~o else o) →
    t.iu.timeBase = s.iu.timeBase + 1#32
    ∧ (t.iu.startDue = true ↔ s.iu.startDue = true ∨ s.iu.nextStart = some (s.iu.timeBase + 1#32))
    ∧ (∀ k left, s.iu.phase = .poll k left → t.iu.phase = .poll k (left - 1) ∧ t.iu.onWire = begun (left - 1))
    ∧ (∀ left, s.iu.phase = .message left → t.iu.phase = .message (left - 1) ∧ t.iu.onWire = begun (left - 1))
    ∧ (∀ k h heard w f, s.iu.phase = .answer k ⟨h, heard, w, f⟩ → t.iu.phase = .answer k ⟨h, heard, less w, less f⟩)
    ∧ (∀ k left, s.iu.phase = .gap k left → t.iu.phase = .gap k (left - 1))
    ∧ (∀ left, s.iu.phase = .messageWait left → t.iu.phase = .messageWait (left - 1))
    ∧ (s.iu.phase = .idle → t.iu.phase = .idle)
    ∧ ((∀ k left, s.iu.phase ≠ .poll k left) → (∀ left, s.iu.phase ≠ .message left) → t.iu.onWire = s.iu.onWire)
    ∧ t.iu = { s.iu with
        timeBase := t.iu.timeBase, startDue := t.iu.startDue, phase := t.iu.phase, onWire := t.iu.onWire }
    ∧ t.bd.rampLeft = s.bd.rampLeft - 1
    ∧ t.bd.runFraction = (if 0 < s.bd.applied then min 1000 (s.bd.runFraction + 1) else s.bd.runFraction)
    ∧ (∀ x ∈ [(s.bd.noCaptureLeft, t.bd.noCaptureLeft), (s.bd.stallLeft, t.bd.stallLeft),
          (s.bd.retryLeft, t.bd.retryLeft), (s.bd.healthyLeft, t.bd.healthyLeft), (s.ds.offLeft, t.ds.offLeft),
          (s.ds.onLeft, t.ds.onLeft), (s.ds.airflowWaitLeft, t.ds.airflowWaitLeft), (s.ds.graceLeft, t.ds.graceLeft),
          (s.ds.frostLeft, t.ds.frostLeft), (s.ds.defrostLeft, t.ds.defrostLeft),
          (s.tm.present.stabilityLeft, t.tm.present.stabilityLeft), (s.tm.low.stabilityLeft, t.tm.low.stabilityLeft),
          (s.tm.high.stabilityLeft, t.tm.high.stabilityLeft), (s.tm.full.stabilityLeft, t.tm.full.stabilityLeft),
          (s.tm.rearmLeft, t.tm.rearmLeft), (s.tm.maxRunLeft, t.tm.maxRunLeft), (s.tm.restLeft, t.tm.restLeft)],
        x.2 = less x.1)
    ∧ t.bd = { s.bd with
        rampLeft := t.bd.rampLeft, runFraction := t.bd.runFraction, noCaptureLeft := t.bd.noCaptureLeft
        stallLeft := t.bd.stallLeft, retryLeft := t.bd.retryLeft, healthyLeft := t.bd.healthyLeft }
    ∧ t.ds = { s.ds with
        offLeft := t.ds.offLeft, onLeft := t.ds.onLeft, airflowWaitLeft := t.ds.airflowWaitLeft
        graceLeft := t.ds.graceLeft, frostLeft := t.ds.frostLeft, defrostLeft := t.ds.defrostLeft }
    ∧ t.tm = { s.tm with
        present := { s.tm.present with stabilityLeft := t.tm.present.stabilityLeft }
        low := { s.tm.low with stabilityLeft := t.tm.low.stabilityLeft }
        high := { s.tm.high with stabilityLeft := t.tm.high.stabilityLeft }
        full := { s.tm.full with stabilityLeft := t.tm.full.stabilityLeft }
        rearmLeft := t.tm.rearmLeft, maxRunLeft := t.tm.maxRunLeft, restLeft := t.tm.restLeft }
    ∧ (∀ i, t.dp.dampers.get i = { s.dp.dampers.get i with stepLeft := less (s.dp.dampers.get i).stepLeft })
    ∧ t.nvs = { s.nvs with current := s.nvs.current.map fun w => { w with left := w.left - 1 } }
    ∧ (s.pl.receiver = .hunting → t.pl.receiver = .hunting)
    ∧ (∀ octets left, s.pl.receiver = .assembling octets left → t.pl.receiver = .assembling octets (left - 1))
    ∧ t.pl = { s.pl with
        receiver := t.pl.receiver, sending := s.pl.sending.map fun x => { x with left := x.left - 1 } }
    ∧ t.dmu = s.dmu ∧ t.du = s.du ∧ t.fs = s.fs ∧ t.mc = s.mc ∧ t.freeUsed = s.freeUsed ∧ t.pending = s.pending)
  ∧ (∀ s : State,
    (∀ x ∈ [(s.bd.noCaptureLeft, Instr.noCaptureExpiry), (s.bd.stallLeft, .stallTimerExpiry),
        (s.bd.retryLeft, .retryTimerExpiry), (s.bd.healthyLeft, .healthyRunExpiry), (s.ds.offLeft, .offTimerExpiry),
        (s.ds.onLeft, .onTimerExpiry), (s.ds.airflowWaitLeft, .airflowWaitExpiry), (s.ds.graceLeft, .airflowGraceExpiry),
        (s.ds.frostLeft, .frostDwellExpiry), (s.ds.defrostLeft, .defrostMaxExpiry),
        (s.tm.present.stabilityLeft, .stabilityTimerExpiry .present),
        (s.tm.low.stabilityLeft, .stabilityTimerExpiry .low), (s.tm.high.stabilityLeft, .stabilityTimerExpiry .high),
        (s.tm.full.stabilityLeft, .stabilityTimerExpiry .full), (s.tm.rearmLeft, .rearmExpiry),
        (s.tm.maxRunLeft, .maxRunExpiry), (s.tm.restLeft, .restExpiry)],
      x.2 ∈ due s ↔ x.1 = some 0)
    ∧ (.cycleStart ∈ due s ↔ s.iu.phase = .idle ∧ s.iu.startDue = true ∧ ∃ ms, intervalNow s = some ms)
    ∧ (.pollSent ∈ due s ↔ ∃ k, s.iu.phase = .poll k 0)
    ∧ (.answerWindowExpiry ∈ due s ↔ ∃ k h heard f, s.iu.phase = .answer k ⟨h, heard, some 0, f⟩)
    ∧ (.frameTimerExpiry ∈ due s ↔ ∃ k h heard w, s.iu.phase = .answer k ⟨h, heard, w, some 0⟩)
    ∧ (.answerGapEnd ∈ due s ↔ ∃ k, s.iu.phase = .gap k 0)
    ∧ (.nodeMessageEnd ∈ due s ↔ s.iu.phase = .message 0)
    ∧ (.messageWaitEnd ∈ due s ↔ s.iu.phase = .messageWait 0)
    ∧ (∀ i, .holdExpiry i ∈ due s ↔
      (s.dmu.zones.get i).sample = .held ∧ (s.dmu.zones.get i).holdExpiry = some s.iu.timeBase)
    ∧ (.rampTick ∈ due s ↔ s.bd.rampLeft = 0)
    ∧ (.runHoursSecond ∈ due s ↔ 1000 ≤ s.bd.runFraction)
    ∧ (∀ (i : Fin 6) (home : Bool) (d : Damper), d = s.dp.dampers.get i →
      (.moveStep i home ∈ due s ↔
        d.state = .moving ∧ d.seeking = false ∧ d.stepLeft = some 0 ∧ d.homeSwitch = home)
      ∧ (.seekStep i home ∈ due s ↔
        d.state = .moving ∧ d.seeking = true ∧ d.stepLeft = some 0 ∧ d.homeSwitch = home)
      ∧ (.homingStep i home ∈ due s ↔ d.state = .homing ∧ d.stepLeft = some 0 ∧ d.homeSwitch = home))
    ∧ (.nvsWordDone ∈ due s ↔ ∃ w, s.nvs.current = some w ∧ w.left = 0)
    ∧ (.panelGapTimeout ∈ due s ↔ ∃ octets, s.pl.receiver = .assembling octets 0)
    ∧ (.restartTakesEffect ∈ due s ↔
      s.pl.restartPending = true ∧ ∃ tag, s.pl.sending = some ⟨⟨.reply, tag, [0x1C#8, 0x00#8]⟩, 0⟩)
    ∧ (.upwardFrameEnd ∈ due s ↔ .restartTakesEffect ∉ due s ∧ ∃ f, s.pl.sending = some ⟨f, 0⟩)
    ∧ (∀ c ∈ due s, requestPayload c = none ∧ c ≠ .powerOn ∧ c ≠ .nodeMessageStart ∧ c ≠ .noticeForm
      ∧ (∀ octet, c ≠ .zoneLineOctet octet ∧ c ≠ .panelOctet octet) ∧ (∀ instant, c ≠ .tachEdge instant)
      ∧ ∀ switch closed, c ≠ .tankSwitchChange switch closed))

/-- No command, POWER_ON and RESTART_TAKES_EFFECT among them, puts another into the queue of waiting commands or takes one
from it: what it sets off is handled inside it. The queue is the model's own (log 31), and that the resets keep it is the
model's choice (log 27); the manual speaks of no such queue. -/
def Obligations.CommandsLeaveTheQueueAlone : Prop :=
  ∀ (c : Instr) (s t : State), exec c s = .next t → t.pending = s.pending

/-- The state after reset, block by block, in full: the values the chapters give for power-on. Where they give none the
value is the model's choice: no home switch asserted (log 9) and the raw inputs of the tank switches open (log 10); a store
never written, so that both stage accounts start from nothing and the FilterRecordLost notices of stages 1 and 2 are the
frame in transmission and the one waiting (log 11); the opening and the target of a zone (log 21); the time of the last
capture and the direction of a damper (log 26); no command waiting and no free value drawn (log 27, log 31). -/
def Obligations.ResetValues : Prop :=
  (State.reset.iu =
    { pollList := [⟨1, .either⟩]
      nodes := [⟨1, .either, .unknown, 0, none, ⟨none, none, none, none, none, none, none⟩, none, 0#32⟩]
      polarity := .normal, badWindows := 0, timeBase := 0#32
      live := ⟨0#16, 0#16, 0#16, 0#16, 0#16, 0#16, 0#16⟩, snapshot := ⟨0#16, 0#16, 0#16, 0#16, 0#16, 0#16, 0#16⟩
      cycleNumber := 0#16, down := [], phase := .poll 0 (zoneLineTime 4), sending := pollFrame 1, onWire := [0x70#8]
      lastStart := some 0#32, nextStart := some 10000#32, startDue := false })
  ∧ (∀ i, State.reset.dmu.zones.get i =
    { entry := ⟨false, 0, 12, 16, 500, false⟩, sample := .noNode, pm25 := none, rh := none, temperature := none
      lastAccept := none, holdExpiry := none, dPm := 0, err := none, dRh := 0, d := 0, opening := 0, target := none })
  ∧ (State.reset.dmu.largest = 0 ∧ State.reset.dmu.call = false ∧ State.reset.dmu.dryingActive = false
    ∧ State.reset.dmu.filterMissing = false ∧ State.reset.dmu.demandedDuty = 0)
  ∧ (State.reset.bd =
    { applied := 0, staged := 0
      profiles := ⟨[⟨300, 20, 30⟩, ⟨700, 10, 20⟩, ⟨1000, 5, 15⟩], [⟨450, 8, 15⟩, ⟨1000, 4, 10⟩],
        [⟨300, 20, 30⟩, ⟨700, 10, 20⟩, ⟨1000, 5, 15⟩], [⟨300, 20, 30⟩, ⟨700, 10, 20⟩, ⟨1000, 5, 15⟩]⟩
      allowance := 0, chain := ⟨false, 0, 0⟩, speed := 0, state := .stopped, retryCount := 0, rampLeft := 100
      noCaptureLeft := none, stallLeft := none, retryLeft := none, healthyLeft := none, finish := .none, cuts := 0#16
      runFraction := 0, runSeconds := 0 })
  ∧ (∀ i, State.reset.dp.dampers.get i =
    { entry := ⟨false, 1000, 0, 0⟩, state := .unfitted, position := none, target := none, share := 0, pending := 0
      covered := none, homingCount := 0, confirmCount := 0, finish := .none, seeking := false, stepLeft := none
      homeSwitch := false, towardOpen := false })
  ∧ (∀ curve, curve = (List.range 17).map (75 * ·) →
    State.reset.du = { curve := curve, factoryCurve := curve, previousStamp := none, gaps := 0#16, airflow := none })
  ∧ (∀ (c : FilterClass) (r : StageRecord), c = ⟨24000, 970, 90, 250, 30, 24, 1800, 850⟩ →
    r = { number := 0, dose := 0, remainder := 0, held := 0, life := 0, state := .fresh, restored := false
          checkpointLife := 0, stamp := 0#32, unsaved := true, absentCount := 0, presentCount := 0 } →
    State.reset.fs = { classes := ⟨c, c, c, c⟩, factoryClasses := ⟨c, c, c, c⟩, pre := r, fine := r })
  ∧ (State.reset.ds =
    { state := .idle, compressor := false, service := false, offLeft := some 180000, onLeft := none
      airflowWaitLeft := none, graceLeft := none, frostLeft := none, defrostLeft := none, timeouts := 0, finish := .none
      call := false, tankBlocked := true, faulted := false, applied := 0, coil := none, nodeLost := false, mode := .off })
  ∧ (∀ sw : SwitchState, sw = ⟨false, none, some 2000⟩ →
    State.reset.tm =
      { present := sw, low := sw, high := sw, full := sw, level := .unsettled, blocked := true, origin := .startUp
        rearmLeft := none, pump := .off, maxRunLeft := none, restLeft := none, timeouts := 0, serviceRun := false
        finish := .none })
  ∧ (State.reset.mc =
    { mode := .off, source := .line, record := ⟨none, none, none⟩, largest := 0
      settings :=
        { nodeAddress := 1, relayEnable := true, polarity := .auto, runProfile := 0, quietProfile := 1, runCap := 1000
          quietCap := 450, idleDuty := 150, coilMinimum := 350, fixedShare := 0, holdTime := 60, callOn := 30
          callOff := -10, wakeThreshold := 300, autoWake := true, pumpFitted := false, edges := 2, pulses := 2 } })
  ∧ (State.reset.nvs.queue = [] ∧ State.reset.nvs.current = none ∧ ∀ a, Memory.read State.reset.nvs.cells a = 0xFF#8)
  ∧ (State.reset.pl =
    { receiver := .hunting, requests := [], upward := [⟨.notice, 1#8, [10#8, 2#8]⟩]
      sending := some ⟨⟨.notice, 0#8, [10#8, 1#8]⟩, panelLinkTime 8⟩, pending := [], mask := 0#24, errorStatus := .done
      errorRequest := 0#8, overrun := false, upNumber := 2#8, checkFail := 0#16, kindFail := 0#16
      requestsDropped := 0#16, relaysDropped := 0#16, restartPending := false })
  ∧ State.reset.freeUsed = 0 ∧ State.reset.pending = []

/-- The state after reset meets every invariant of the model. -/
def Obligations.ResetMeetsTheInvariants : Prop :=
  Memory.wf State.reset.nvs.cells = true ∧ dampersInvariant State.reset.dp = true
    ∧ allowanceInvariant State.reset = true ∧ pumpInvariant State.reset.tm = true
    ∧ compressorInvariant State.reset.mc.mode State.reset.mc.settings.coilMinimum State.reset.ds = true
    ∧ filtersInvariant State.reset.fs = true ∧ tablesInRange State.reset = true
    ∧ upwardInvariant State.reset.pl = true ∧ noticesDistinct State.reset.pl
    ∧ writeQueueInvariant State.reset.nvs ∧ queuesBounded State.reset

/-- Power-on puts every block into its power-on state: the fan curve, the classes, the run hours and the stage accounts come
from the store, whose octets stay and whose queued and interrupted writes are lost; a stage whose record is not valid posts
FilterRecordLost; a fine stage restored as Missing is told to the DMU. The pins show what they showed (log 9, log 10), and
the commands that wait and the count of free values are the model's own (log 27).
When a pending Restart takes effect, with the last octet of its Reply, every block takes its Restart values: the factory
curve and classes, the run-hour count, the filter accounts and the store are kept. The event acts so when it comes by itself
and when it is the end of that Reply's frame (log 28); while no Restart is pending, or another frame or none is in
transmission, it has no effect (log 2).
In the values that both resets give, the opening 0 and the absent target of a zone are the model's choice (log 21), and so
are the direction of a damper and the time of the last capture (log 26).
What is restored (R65, R93, R104, R113 to R115, R159, Table 11-10): a stage account and the run-hour count from their slots
when the record there is valid (key, length, sum 0, fields in range), else an account from nothing with its notice, and 0;
the fan curve and the classes from their factory records when valid and in range, else the built-in ones. The checkpoints
have just that layout. Table 11-10 names bits 0 and 1 of the flags octet alone; that a record with another bit set is valid,
and that a checkpoint writes those bits 0, is the model's reading (log 29). At a Restart a stage loses its counts, and one not in
Missing derives its state again, a move setting the unsaved flag (R116). -/
def Obligations.TheResets : Prop :=
  (∀ s : State,
     let classes := restoreClasses s.nvs.cells
     let pre := restoreStage false classes s.nvs.cells
     let fine := restoreStage true classes s.nvs.cells
     let preLost := if Signal.notice .filterRecordLost (some 1#8) ∈ pre.2 then post .filterRecordLost (some 1#8) Panel.reset
       else Panel.reset
     exec .powerOn s = .next { s with
       iu := Intake.reset
       dmu := { Demand.reset with filterMissing := decide (fine.1.state = .missing) }
       bd := Blower.reset (restoreRunHours s.nvs.cells)
       dp := ⟨s.dp.dampers.map fun d => Damper.reset d.homeSwitch⟩
       du := Dose.reset (restoreCurve s.nvs.cells)
       fs := ⟨classes, classes, pre.1, fine.1⟩
       ds := Sequencer.reset
       tm := Tank.reset s.tm.present.raw s.tm.low.raw s.tm.high.raw s.tm.full.raw
       mc := ModeControl.reset
       nvs := ⟨s.nvs.cells, [], none⟩
       pl := if Signal.notice .filterRecordLost (some 2#8) ∈ fine.2 then post .filterRecordLost (some 2#8) preLost
         else preLost })
  ∧ ((∀ (s t : State) (tag : Byte) (left : Nat),
       t = { s with
         iu := Intake.reset
         dmu := { Demand.reset with filterMissing := decide (s.fs.fine.state = .missing) }
         bd := Blower.reset s.bd.runSeconds
         dp := ⟨s.dp.dampers.map fun d => Damper.reset d.homeSwitch⟩
         du := Dose.reset s.du.factoryCurve
         fs := ⟨s.fs.factoryClasses, s.fs.factoryClasses, restartStage s.fs.factoryClasses s.fs.pre,
           restartStage s.fs.factoryClasses s.fs.fine⟩
         ds := Sequencer.reset
         tm := Tank.reset s.tm.present.raw s.tm.low.raw s.tm.high.raw s.tm.full.raw
         mc := ModeControl.reset
         pl := Panel.reset } →
       s.pl.restartPending = true → s.pl.sending = some ⟨⟨.reply, tag, [0x1C#8, 0x00#8]⟩, left⟩ →
         exec .restartTakesEffect s = .next t ∧ exec .upwardFrameEnd s = .next t)
     ∧ (∀ s : State, s.pl.restartPending = false
         ∨ (∀ x, s.pl.sending = some x → ¬ (x.frame.kind = .reply ∧ x.frame.payload = [0x1C#8, 0x00#8])) →
       exec .restartTakesEffect s = .next s))
  ∧ (∀ (fine valid : Bool) (classes : Quad FilterClass) (cells : List Host.Cell) (i : Fin 4) (held life : Nat)
       (k0 k1 len n d3 d2 d1 d0 h1 h0 l1 l0 flags s3 s2 s1 s0 c : Byte) (octets : List Byte),
     octets = [k0, k1, len, n, d3, d2, d1, d0, h1, h0, l1, l0, flags, s3, s2, s1, s0, c] →
     Memory.readAll cells (if fine then 288 else 256) 18 = octets →
     held = (h1 ++ h0).toNat → life = (l1 ++ l0).toNat → (n.toNat < 4 → i.val = n.toNat) →
     (valid = true ↔ k0 = 0x46#8 ∧ k1 = (if fine then 0x32#8 else 0x31#8) ∧ len = 7#8 ∧ octets.foldl (· + ·) 0#8 = 0#8
       ∧ n.toNat < 4 ∧ held ≤ 1999 ∧ life ≤ 1999 ∧ (fine = true ∨ flags.getLsbD 1 = false)) →
     restoreStage fine classes cells =
       if valid then
         ({ number := i, dose := ((d3 ++ d2) ++ (d1 ++ d0)).toNat, remainder := 0, held := held, life := life
            state := if flags.getLsbD 1 then .missing else if life < (classes.get i).due then .fresh
              else if life < 1000 then .due else .worn
            restored := flags.getLsbD 0, checkpointLife := life, stamp := (s3 ++ s2) ++ (s1 ++ s0), unsaved := false
            absentCount := 0, presentCount := 0 },
           if flags.getLsbD 1 then [.filterMissing true] else [])
       else
         ({ number := 0, dose := 0, remainder := 0, held := 0, life := 0, state := .fresh, restored := false
            checkpointLife := 0, stamp := 0#32, unsaved := true, absentCount := 0, presentCount := 0 },
           [.notice .filterRecordLost (some (if fine then 2#8 else 1#8))]))
  ∧ (∀ (cells : List Host.Cell) (k0 k1 len a b c d check : Byte) (octets : List Byte),
     octets = [k0, k1, len, a, b, c, d, check] → Memory.readAll cells 320 8 = octets →
     restoreRunHours cells =
       if k0 = 0x42#8 ∧ k1 = 0x48#8 ∧ len = 2#8 ∧ octets.foldl (· + ·) 0#8 = 0#8 then ((a ++ b) ++ (c ++ d)).toNat else 0)
  ∧ (∀ (fine : Bool) (r : StageRecord) (seconds : Nat), ∃ c c' : Byte, ∃ body body' : List Byte,
     body = [0x46#8, if fine then 0x32#8 else 0x31#8, 7#8, octet r.number.val] ++ nat32 r.dose ++ nat16 r.held
       ++ nat16 r.life ++ [(if r.restored then 1#8 else 0#8) ||| (if r.state = .missing then 2#8 else 0#8)]
       ++ octets32 r.stamp ++ [c]
     ∧ body.foldl (· + ·) 0#8 = 0#8
     ∧ stageItem fine r = ⟨if fine then .f2 else .f1, body ++ [0xFF#8, 0xFF#8]⟩
     ∧ body' = [0x42#8, 0x48#8, 2#8] ++ nat32 seconds ++ [c'] ∧ body'.foldl (· + ·) 0#8 = 0#8
     ∧ runHourItem seconds = ⟨.bh, body'⟩)
  ∧ (∀ (cells : List Host.Cell) (fits : List Nat → Byte → Prop),
     (∀ points c, fits points c ↔ points.length = 17 ∧ (∀ p ∈ points, p ≤ 1500)
       ∧ Memory.readAll cells 64 38 = [0x46#8, 0x56#8, 17#8] ++ points.flatMap nat16 ++ [c]
       ∧ (Memory.readAll cells 64 38).foldl (· + ·) 0#8 = 0#8) →
     (∀ points c, fits points c → restoreCurve cells = points)
     ∧ ((∀ points c, ¬ fits points c) → restoreCurve cells = (List.range 17).map (75 * ·)))
  ∧ (∀ (cells : List Host.Cell) (fits : Quad FilterClass → Byte → Prop),
     (∀ classes c, fits classes c ↔
       (∀ i, classInRange (classes.get i) = true ∧ (classes.get i).capacity ≤ 65535 ∧ (classes.get i).slope ≤ 255)
       ∧ Memory.readAll cells 128 64 = [0x46#8, 0x43#8, 30#8] ++ filterClassOctets classes.q0
         ++ filterClassOctets classes.q1 ++ filterClassOctets classes.q2 ++ filterClassOctets classes.q3 ++ [c]
       ∧ (Memory.readAll cells 128 64).foldl (· + ·) 0#8 = 0#8) →
     (∀ classes c, fits classes c → restoreClasses cells = classes)
     ∧ ((∀ classes c, ¬ fits classes c) →
       restoreClasses cells = Quad.all ⟨24000, 970, 90, 250, 30, 24, 1800, 850⟩))
  ∧ (∀ (classes : Quad FilterClass) (r : StageRecord) (derived : StageState),
     derived = (if r.life < (classes.get r.number).due then .fresh else if r.life < 1000 then .due else .worn) →
     (r.state = .missing → restartStage classes r = { r with absentCount := 0, presentCount := 0 })
     ∧ (r.state ≠ .missing → restartStage classes r = { r with
         absentCount := 0, presentCount := 0, state := derived
         unsaved := if derived = r.state then r.unsaved else true }))

/-! ### The zone line (Chapter 1) -/

/-- The next start time is reached with the line free, in a mode that polls: the start time is recorded, the next one set by
Table 1-2, and the first Poll begins; a cycle over an empty list ends at once, and a waiting Node Message then begins. With
the line not free, or where no cycles run, the command has no effect (log 2).
The first octet of a frame begins with it and leaves the pin complemented while the polarity is Inverted (R1). What begins at
once on the line that is free begins inside the command (log 6).
The interval between cycle starts is that of Table 1-2 for the mode and source in force.
A Poll is 70h, the address and the check (Table 11-9). The check is that of R2: FFFFh before the first octet; each octet, most
significant bit first, shifts the register one place for each bit, and 1021h is combined in when the bit shifted out differs
from the data bit; high octet first; 29B1h for the octets 31h to 39h. -/
def Obligations.CycleStart : Prop :=
  (∀ (s : State) (ms : Nat) (timed : Intake) (pin : Byte → Byte), pin = corrected s.iu.polarity →
     timed = { s.iu with
       lastStart := some s.iu.timeBase, nextStart := some (s.iu.timeBase + BitVec.ofNat 32 ms), startDue := false } →
     (s.iu.phase = .idle → intervalNow s = some ms →
       (∀ e rest, s.iu.pollList = e :: rest →
         exec .cycleStart s = .next { s with iu := { timed with
           phase := .poll 0 (zoneLineTime 4), sending := pollFrame e.address, onWire := [pin 0x70#8] } })
       ∧ (s.iu.pollList = [] → s.iu.down = [] →
         exec .cycleStart s = .next { s with iu := { timed with
           snapshot := s.iu.live, cycleNumber := s.iu.cycleNumber + 1#16, sending := [], onWire := [] } })
       ∧ (∀ m rest, s.iu.pollList = [] → s.iu.down = m :: rest →
         exec .cycleStart s = .next { s with iu := { timed with
           snapshot := s.iu.live, cycleNumber := s.iu.cycleNumber + 1#16
           phase := .message (zoneLineTime (messageFrame m.address m.data).length)
           sending := messageFrame m.address m.data, onWire := [pin 0x74#8] } }))
     ∧ (s.iu.phase ≠ .idle ∨ intervalNow s = none → exec .cycleStart s = .next s))
  ∧ (∀ (p : Polarity) (o : Byte), corrected p o = match p with
       | .normal => o
       | .inverted => ~~~o)
  ∧ (∀ bit : Half → Bool → Half,
       (∀ r b, bit r b = if r.getLsbD 15 = b then r <<< 1 else (r <<< 1) ^^^ 0x1021#16) →
       checkOf [] = 0xFFFF#16
       ∧ ∀ (octets : List Byte) (o : Byte), checkOf (octets ++ [o]) =
         bit (bit (bit (bit (bit (bit (bit (bit (checkOf octets) (o.getLsbD 7)) (o.getLsbD 6)) (o.getLsbD 5))
           (o.getLsbD 4)) (o.getLsbD 3)) (o.getLsbD 2)) (o.getLsbD 1)) (o.getLsbD 0))
  ∧ checkOf [0x31#8, 0x32#8, 0x33#8, 0x34#8, 0x35#8, 0x36#8, 0x37#8, 0x38#8, 0x39#8] = 0x29B1#16
  ∧ (∀ (address : Nat) (check : Half), check = checkOf [0x70#8, BitVec.ofNat 8 address] →
       pollFrame address = [0x70#8, BitVec.ofNat 8 address, check.extractLsb' 8 8, check.extractLsb' 0 8])
  ∧ (∀ s : State,
       intervalNow s = (match s.mc.mode, s.mc.source with
         | .run, _ => some 2000
         | .quiet, _ => some 4000
         | .off, _ => some 10000
         | .standby, _ => some 60000
         | .service, .line => some 2000
         | .service, .inject => none))

/-- The last octet of a Poll opens the answer period with its 15 ms window, hunting (R7 step 2, R8). When the gap after an
answer period ends, the next entry is polled; after the last entry the cycle ends: the live counters are copied to the
snapshot, the cycle number increases, and the free line is used as R5 and R21 say, inside the command (log 6). Without a Poll or a gap the commands have
no effect (log 2). -/
def Obligations.PollsFollowEachOther : Prop :=
  ∀ s : State,
    (∀ k left, s.iu.phase = .poll k left →
      exec .pollSent s = .next { s with iu := { s.iu with
        phase := .answer k ⟨.hunting, false, some 15, none⟩, sending := [], onWire := [] } })
    ∧ ((∀ k left, s.iu.phase ≠ .poll k left) → exec .pollSent s = .next s)
    ∧ (∀ k left e, s.iu.phase = .gap k left → s.iu.pollList[k + 1]? = some e →
      exec .answerGapEnd s = .next { s with iu := { s.iu with
        phase := .poll (k + 1) (zoneLineTime 4), sending := pollFrame e.address
        onWire := [corrected s.iu.polarity 0x70#8] } })
    ∧ (∀ k left, s.iu.phase = .gap k left → s.iu.pollList[k + 1]? = none →
      exec .answerGapEnd s = .next { s with iu := useFreeLine (intervalNow s) { s.iu with
        snapshot := s.iu.live, cycleNumber := s.iu.cycleNumber + 1#16, phase := .idle, sending := [], onWire := [] } })
    ∧ ((∀ k left, s.iu.phase ≠ .gap k left) → exec .answerGapEnd s = .next s)

/-- A Node Message begins only on a line free of cycles with no cycle due, from the front of the down queue; with its last
octet it leaves the queue and the 5 ms wait begins; after the wait the free line is used as R5 and R21 say. In any other
situation the three commands have no effect (log 2).
How a line that has become free is used (R5, R21): a cycle whose start time has been reached starts at that instant;
with none due the Node Message at the front begins; with neither the line stays free. A cycle over an empty poll list ends at
once and leaves the line to a waiting message. A line that is not free stays as it is. What begins at once begins inside the
command that frees the line (log 6).
A Node Message is 74h, the address, the length, the data octets and the check of R2, high octet first (Table 11-9). -/
def Obligations.NodeMessages : Prop :=
  (∀ s : State,
     (∀ m rest, s.iu.phase = .idle → s.iu.startDue = false → s.iu.down = m :: rest →
       exec .nodeMessageStart s = .next { s with iu := { s.iu with
         phase := .message (zoneLineTime (messageFrame m.address m.data).length)
         sending := messageFrame m.address m.data, onWire := [corrected s.iu.polarity 0x74#8] } })
     ∧ (s.iu.phase ≠ .idle ∨ s.iu.startDue = true ∨ s.iu.down = [] → exec .nodeMessageStart s = .next s)
     ∧ (∀ left, s.iu.phase = .message left →
       exec .nodeMessageEnd s = .next { s with iu := { s.iu with
         down := s.iu.down.drop 1, phase := .messageWait 5, sending := [], onWire := [] } })
     ∧ ((∀ left, s.iu.phase ≠ .message left) → exec .nodeMessageEnd s = .next s)
     ∧ (∀ left, s.iu.phase = .messageWait left →
       exec .messageWaitEnd s = .next { s with iu := useFreeLine (intervalNow s) { s.iu with phase := .idle } })
     ∧ ((∀ left, s.iu.phase ≠ .messageWait left) → exec .messageWaitEnd s = .next s))
  ∧ (∀ (interval : Option Nat) (iu : Intake), iu.phase = .idle →
       (∀ ms e rest, interval = some ms → iu.startDue = true → iu.pollList = e :: rest →
         useFreeLine interval iu = { iu with
           lastStart := some iu.timeBase, nextStart := some (iu.timeBase + BitVec.ofNat 32 ms), startDue := false
           phase := .poll 0 (zoneLineTime 4), sending := pollFrame e.address
           onWire := [corrected iu.polarity 0x70#8] })
       ∧ (∀ (ms : Nat) (done : Intake), interval = some ms → iu.startDue = true → iu.pollList = [] →
         done = { iu with
           lastStart := some iu.timeBase, nextStart := some (iu.timeBase + BitVec.ofNat 32 ms), startDue := false
           snapshot := iu.live, cycleNumber := iu.cycleNumber + 1#16, sending := [], onWire := [] } →
         (iu.down = [] → useFreeLine interval iu = done)
         ∧ (∀ m rest, iu.down = m :: rest → useFreeLine interval iu = { done with
           phase := .message (zoneLineTime (messageFrame m.address m.data).length)
           sending := messageFrame m.address m.data, onWire := [corrected iu.polarity 0x74#8] }))
       ∧ (interval = none → iu.startDue = true → useFreeLine interval iu = iu)
       ∧ (∀ m rest, iu.startDue = false → iu.down = m :: rest →
         useFreeLine interval iu = { iu with
           phase := .message (zoneLineTime (messageFrame m.address m.data).length)
           sending := messageFrame m.address m.data, onWire := [corrected iu.polarity 0x74#8] })
       ∧ (iu.startDue = false → iu.down = [] → useFreeLine interval iu = iu))
  ∧ (∀ (interval : Option Nat) (iu : Intake), iu.phase ≠ .idle → useFreeLine interval iu = iu)
  ∧ (∀ (address : Byte) (data body : List Byte) (check : Half),
       body = [0x74#8, address, BitVec.ofNat 8 data.length] ++ data → check = checkOf body →
       messageFrame address data = body ++ [check.extractLsb' 8 8, check.extractLsb' 0 8])

/-- An octet in an answer period, after polarity correction: a lead begins a frame with its stamp and the 12 ms frame
timer, any other octet heard while hunting marks the period, an octet short of the frame's length joins it. Outside an
answer period an octet is discarded (R1).
The events that close an answer period, and with what: the octet that completes the frame with the outcome of R9, the
window while hunting and the frame timer with no frame. The window while assembling closes nothing. The close is settled
once, and the 5 ms gap begins. Without the timer in question the expiries have no effect (log 2). -/
def Obligations.AnswerPeriods : Prop :=
  (∀ (s : State) (raw o : Byte), o = (if s.iu.polarity = .inverted then ~~~raw else raw) →
     (∀ k heard w f, s.iu.phase = .answer k ⟨.hunting, heard, w, f⟩ →
       exec (.zoneLineOctet raw) s = .next { s with iu := { s.iu with
         phase := if o = 0x71#8 ∨ o = 0x72#8 then .answer k ⟨.assembling s.iu.timeBase [o], true, w, some 12⟩
           else .answer k ⟨.hunting, true, w, f⟩ } })
     ∧ (∀ k heard w f stamp octets, s.iu.phase = .answer k ⟨.assembling stamp octets, heard, w, f⟩ →
       (octets ++ [o]).length < (if (octets ++ [o]).head? = some 0x72#8 then 20 else 12) →
       exec (.zoneLineOctet raw) s = .next { s with iu := { s.iu with
         phase := .answer k ⟨.assembling stamp (octets ++ [o]), heard, w, f⟩ } })
     ∧ ((∀ k p, s.iu.phase ≠ .answer k p) → exec (.zoneLineOctet raw) s = .next s))
  ∧ (∀ (s : State) (k : Nat) (e : PollEntry) (close : Bool → PeriodOutcome → Intake × List Signal),
       s.iu.pollList[k]? = some e →
       close = (fun heard o => closePeriod s.mc.settings k heard o s.iu) →
       (∀ raw now heard w f stamp octets, s.iu.phase = .answer k ⟨.assembling stamp octets, heard, w, f⟩ →
         now = octets ++ [corrected s.iu.polarity raw] → frameLength now ≤ now.length →
         exec (.zoneLineOctet raw) s =
           (let c := close true (validateFrame e.address (findNode e.address s.iu.nodes) stamp now)
            .next (settle c.2 { s with iu := c.1 })))
       ∧ (∀ heard n f, s.iu.phase = .answer k ⟨.hunting, heard, some n, f⟩ →
         exec .answerWindowExpiry s = .next (settle (close heard .noFrame).2 { s with iu := (close heard .noFrame).1 }))
       ∧ (∀ heard n f stamp octets, s.iu.phase = .answer k ⟨.assembling stamp octets, heard, some n, f⟩ →
         exec .answerWindowExpiry s = .next { s with iu := { s.iu with
           phase := .answer k ⟨.assembling stamp octets, heard, none, f⟩ } })
       ∧ (∀ heard w n stamp octets, s.iu.phase = .answer k ⟨.assembling stamp octets, heard, w, some n⟩ →
         exec .frameTimerExpiry s = .next (settle (close true .noFrame).2 { s with iu := (close true .noFrame).1 }))
       ∧ ((∀ j h heard n f, s.iu.phase ≠ .answer j ⟨h, heard, some n, f⟩) → exec .answerWindowExpiry s = .next s)
       ∧ ((∀ j heard w n stamp octets, s.iu.phase ≠ .answer j ⟨.assembling stamp octets, heard, w, some n⟩) →
         exec .frameTimerExpiry s = .next s))

/-- The first failing step of R9 decides the outcome of a completed frame: a wrong check, another address than the one
polled, the sequence that the record holds; a frame that passes all is accepted with its stamp, its sequence, and the fields
and the mismatch mark of Table 1-3.
Each 16-bit field of a reading frame is decoded in two steps: 7FFFh is absent, and any other value is clamped, signed to
−400..850 for the two temperatures and unsigned to at most 1000 for RH, PM2.5, PM10 and ΔP; a Short frame has no PM10, ΔP
and coil temperature, and the status octet is always present. The check of a received frame is right when the check of R2 over
the octets before the last two is these two, high octet first. -/
def Obligations.FrameValidation : Prop :=
  (∀ (address : Nat) (r : NodeRecord) (stamp : Word) (octets : List Byte) (fields : Reading),
     readingOfFrame octets = some fields →
     (checkHolds octets = false → validateFrame address (some r) stamp octets = .checkFail)
     ∧ (checkHolds octets = true → (octets.getD 1 0#8).toNat ≠ address →
       validateFrame address (some r) stamp octets = .stray)
     ∧ (checkHolds octets = true → (octets.getD 1 0#8).toNat = address → r.lastSequence = some (octets.getD 2 0#8) →
       validateFrame address (some r) stamp octets = .duplicate)
     ∧ (checkHolds octets = true → (octets.getD 1 0#8).toNat = address → r.lastSequence ≠ some (octets.getD 2 0#8) →
       validateFrame address (some r) stamp octets =
         match r.form, decide (octets.getD 0 0#8 = 0x72#8) with
         | .short, true =>
           .accepted stamp (octets.getD 2 0#8) { fields with pm10 := none, pressure := none, coil := none } true
         | .long, false => .accepted stamp (octets.getD 2 0#8) fields true
         | _, _ => .accepted stamp (octets.getD 2 0#8) fields false))
  ∧ ((∀ x : Half, temperatureField x = if x = 0x7FFF#16 then none else some (max (-400) (min 850 x.toInt)))
     ∧ (∀ x : Half, unsignedField x = if x = 0x7FFF#16 then none else some (min 1000 x.toNat))
     ∧ (∀ address sequence status c1 c0 : Byte, ∀ t h p : Half,
       readingOfFrame ([0x71#8, address, sequence] ++ octets16 t ++ octets16 h ++ octets16 p ++ [status, c1, c0])
         = some ⟨temperatureField t, unsignedField h, unsignedField p, none, none, none, some status⟩)
     ∧ (∀ address sequence status spare1 spare0 c1 c0 : Byte, ∀ t h p q d c : Half,
       readingOfFrame ([0x72#8, address, sequence] ++ octets16 t ++ octets16 h ++ octets16 p ++ [status] ++ octets16 q
           ++ octets16 d ++ octets16 c ++ [spare1, spare0, c1, c0])
         = some ⟨temperatureField t, unsignedField h, unsignedField p, unsignedField q, unsignedField d, temperatureField c,
           some status⟩))
  ∧ (∀ (body : List Byte) (c1 c0 : Byte), checkHolds (body ++ [c1, c0]) = true ↔ checkOf body = c1 ++ c0)

/-- A close with an accepted reading (R12): the record takes the fields whole, the sequence, the stamp as last accept time,
one more accepted, misses 0 and Live; NodeBack is posted when the node was Lost; the reading is delivered; Accepted, and
FormMismatch on a mismatch, are counted; under Auto the bad-window count becomes 0.
A close without an accepted reading (silence, a discarded partial frame, a check failure, a stray, a duplicate):
the polled node's misses increase to at most 3, its state becomes Missing at 1 or 2 and Lost at 3; NodeLost is posted on the
change to Lost and not again; the last reading, last sequence and last accept time are kept, and so are all other records.
The change of state is delivered, for the unit node's change to Lost also as the unit node's. -/
def Obligations.NodeRecords : Prop :=
  (∀ (u : Settings) (k : Nat) (e : PollEntry) (heard : Bool) (stamp : Word) (q : Byte) (fields : Reading)
     (mismatch : Bool) (r : NodeRecord) (iu : Intake),
     iu.pollList[k]? = some e → findNode e.address iu.nodes = some r →
     closePeriod u k heard (.accepted stamp q fields mismatch) iu =
       ({ iu with
           nodes := updateNode e.address (fun x => { x with
             last := fields, lastSequence := some q, lastAccept := some stamp, accepted := x.accepted + 1#32
             misses := 0, state := .live }) iu.nodes
           badWindows := if u.polarity = .auto then 0 else iu.badWindows
           live := { iu.live with
             accepted := iu.live.accepted + 1#16
             formMismatch := if mismatch then iu.live.formMismatch + 1#16 else iu.live.formMismatch }
           phase := .gap k 5 },
         (if r.state = .lost then [.notice .nodeBack (some (octet e.address))] else [])
           ++ [.reading e.address stamp (some q) fields]))
  ∧ (∀ (u : Settings) (k : Nat) (e : PollEntry) (heard : Bool) (o : PeriodOutcome) (r : NodeRecord) (iu : Intake),
       iu.pollList[k]? = some e → findNode e.address iu.nodes = some r →
       o = .noFrame ∨ o = .checkFail ∨ o = .stray ∨ o = .duplicate →
       ∃ missed : NodeRecord,
         missed = { r with misses := min 3 (r.misses + 1), state := if r.misses < 2 then .missing else .lost }
         ∧ findNode e.address (closePeriod u k heard o iu).1.nodes = some missed
         ∧ (∀ a, a ≠ e.address → findNode a (closePeriod u k heard o iu).1.nodes = findNode a iu.nodes)
         ∧ (closePeriod u k heard o iu).2.filter (· != .notice .polarityChanged none) =
           (if missed.state = r.state then []
            else (if missed.state = .lost then [.notice .nodeLost (some (octet e.address))] else [])
             ++ [.nodeState e.address missed.state]
             ++ (if missed.state = .lost ∧ e.address = u.nodeAddress then [.unitState .lost] else [])))

/-- Polarity acquisition at the close of an answer period. Under Auto a valid Reading, duplicates included, sets the
bad-window count to 0; a period that heard octets without one increases it, and at 6 the polarity is inverted, the count
becomes 0, PolarityFlips is counted and PolarityChanged is posted; a period that heard nothing changes nothing. Under Normal
or Inverted a close has no effect on either.
What a close counts, and all it counts but a polarity flip: Timeout with no frame, CheckFail, Stray, Duplicate, and
Accepted with FormMismatch (Table 1-5). The gap begins, and nothing else of the Intake Unit changes but the record polled and
the polarity state. -/
def Obligations.PolarityAndCounts : Prop :=
  (∀ (u : Settings) (k : Nat) (heard : Bool) (o : PeriodOutcome) (iu after : Intake) (posted : List Signal),
     closePeriod u k heard o iu = (after, posted) →
     (u.polarity ≠ .auto → after.polarity = iu.polarity ∧ after.badWindows = iu.badWindows
       ∧ after.live.polarityFlips = iu.live.polarityFlips ∧ Signal.notice .polarityChanged none ∉ posted)
     ∧ (u.polarity = .auto → (o = .duplicate ∨ ∃ stamp q fields m, o = .accepted stamp q fields m) →
       after.polarity = iu.polarity ∧ after.badWindows = 0 ∧ after.live.polarityFlips = iu.live.polarityFlips
       ∧ Signal.notice .polarityChanged none ∉ posted)
     ∧ (u.polarity = .auto → o = .noFrame ∨ o = .checkFail ∨ o = .stray →
       (heard = false → after.polarity = iu.polarity ∧ after.badWindows = iu.badWindows
         ∧ after.live.polarityFlips = iu.live.polarityFlips ∧ Signal.notice .polarityChanged none ∉ posted)
       ∧ (heard = true → iu.badWindows < 5 → after.polarity = iu.polarity ∧ after.badWindows = iu.badWindows + 1
         ∧ after.live.polarityFlips = iu.live.polarityFlips ∧ Signal.notice .polarityChanged none ∉ posted)
       ∧ (heard = true → 5 ≤ iu.badWindows →
         after.polarity = (if iu.polarity = .normal then .inverted else .normal) ∧ after.badWindows = 0
         ∧ after.live.polarityFlips = iu.live.polarityFlips + 1#16
         ∧ Signal.notice .polarityChanged none ∈ posted)))
  ∧ (∀ (u : Settings) (k : Nat) (heard : Bool) (o : PeriodOutcome) (iu : Intake),
       ∃ c : IntakeCounters,
         closePeriod u k heard o iu =
           ({ iu with
             nodes := (closePeriod u k heard o iu).1.nodes
             polarity := (closePeriod u k heard o iu).1.polarity
             badWindows := (closePeriod u k heard o iu).1.badWindows
             live := c
             phase := .gap k 5 }, (closePeriod u k heard o iu).2)
         ∧ c.timeout = (if o = .noFrame then iu.live.timeout + 1#16 else iu.live.timeout)
         ∧ c.checkFail = (if o = .checkFail then iu.live.checkFail + 1#16 else iu.live.checkFail)
         ∧ c.stray = (if o = .stray then iu.live.stray + 1#16 else iu.live.stray)
         ∧ c.duplicate = (if o = .duplicate then iu.live.duplicate + 1#16 else iu.live.duplicate)
         ∧ (∀ stamp q fields m, o = .accepted stamp q fields m →
           c.accepted = iu.live.accepted + 1#16
           ∧ c.formMismatch = (if m then iu.live.formMismatch + 1#16 else iu.live.formMismatch))
         ∧ ((∀ stamp q fields m, o ≠ .accepted stamp q fields m) →
           c.accepted = iu.live.accepted ∧ c.formMismatch = iu.live.formMismatch))

/-- The deliveries of an accepted reading (R13): the zones that name its node take it (R30) with one demand update for all of
them; the unit node's goes to DU, FS and DS; with relay enable on a Relay is formed, laid out as Table 11-7, and with it off
none. That they are handled in this order is the model's choice (log 7).
What a unit reading, a report of the unit node's state and a Zone Line Reset do at DU, FS and DS: a reading is handled by DU
and FS as one (R89, R106), and the DS takes its coil temperature, absent or not, with the node not Lost (R118); a Lost node and
a Zone Line Reset make the previous stamp absent (R95) and both counts of stage 2 zero (R110), and reach the DS with the coil
temperature absent (R118); any other state reaches the DS alone. A Zone Line Reset sets every zone that names a node back
(R34), and a demand update follows. -/
def Obligations.ReadingDelivery : Prop :=
  (∀ (address : Nat) (stamp : Word) (q : Option Byte) (fields : Reading) (s : State),
    (∀ i, ((route (.reading address stamp q fields) s).1.dmu.zones.get i) =
      if (s.dmu.zones.get i).entry.node = address ∧ address ≠ 0 then
        { s.dmu.zones.get i with
          sample := .fresh, pm25 := fields.pm25, rh := fields.rh, temperature := fields.temperature
          lastAccept := some stamp, holdExpiry := none }
      else s.dmu.zones.get i)
    ∧ (∃ zones, (route (.reading address stamp q fields) s).1 = { s with dmu := { s.dmu with zones := zones } })
    ∧ (route (.reading address stamp q fields) s).2 =
      (if ∃ i, (s.dmu.zones.get i).entry.node = address ∧ address ≠ 0 then [.demandUpdate] else [])
        ++ (if address = s.mc.settings.nodeAddress then [.unitReading stamp fields] else [])
        ++ (if s.mc.settings.relayEnable = true then [.relay (relayPayload address stamp q fields)] else [])
    ∧ relayPayload address stamp q fields =
      [octet address, q.getD 0xFF#8, if q.isSome then 1#8 else 0#8] ++ octets32 stamp
        ++ ((fields.temperature.map int16).getD [0x7F#8, 0xFF#8] ++ (fields.rh.map nat16).getD [0x7F#8, 0xFF#8]
          ++ (fields.pm25.map nat16).getD [0x7F#8, 0xFF#8] ++ (fields.pm10.map nat16).getD [0x7F#8, 0xFF#8]
          ++ (fields.pressure.map nat16).getD [0x7F#8, 0xFF#8] ++ (fields.coil.map int16).getD [0x7F#8, 0xFF#8])
        ++ [fields.status.getD 0xFF#8])
  ∧ (∀ (stamp : Word) (fields : Reading) (s : State) (h : Dose × Filters × List Signal) (r : Sequencer × List Signal),
    h = stageReading s.mc.mode s.bd.speed stamp fields s.du s.fs →
    r = dsDeliver s.mc.settings.coilMinimum .unitReading { s.ds with coil := fields.coil, nodeLost := false } →
    route (.unitReading stamp fields) s = ({ s with du := h.1, fs := h.2.1, ds := r.1 }, h.2.2 ++ r.2))
  ∧ (∀ (s cleared : State),
    cleared = { s with
      du := { s.du with previousStamp := none }
      fs := { s.fs with fine := { s.fs.fine with absentCount := 0, presentCount := 0 } } } →
    (∀ r, r = dsDeliver s.mc.settings.coilMinimum .unitLost { s.ds with coil := none, nodeLost := true } →
      route (.unitState .lost) s = ({ cleared with ds := r.1 }, r.2))
    ∧ (∀ state r, state ≠ .lost → r = dsDeliver s.mc.settings.coilMinimum .unitOther { s.ds with nodeLost := false } →
      route (.unitState state) s = ({ s with ds := r.1 }, r.2))
    ∧ (∀ (r : Sequencer × List Signal) (zones : Six Zone),
      r = dsDeliver s.mc.settings.coilMinimum .lineReset { s.ds with coil := none, nodeLost := false } →
      (∀ i, zones.get i = if (s.dmu.zones.get i).entry.node = 0 then s.dmu.zones.get i else { s.dmu.zones.get i with
        sample := .stale, pm25 := none, rh := none, temperature := none, lastAccept := none, holdExpiry := none }) →
      route .lineReset s = ({ cleared with dmu := { s.dmu with zones := zones }, ds := r.1 }, r.2 ++ [.demandUpdate])))

/-! ### Zones and demand (Chapter 2) -/

/-- The hold-expiry timer of a Held zone expires: the zone becomes Stale, its hold expiry absent, its last values and last
accept time kept, and a demand update follows. For a zone in any other state there is no such timer, and the command has no
effect (log 2).
A node becomes Missing, Lost or Unknown: a Fresh zone that names it becomes Held while less than the hold time has
elapsed since its last accept time, with its hold expiry one hold time after that time, and Stale otherwise; every other
zone keeps its state; the last values are kept; a demand update follows when some zone names the node. R31 has every change
delivered to a zone trigger an update; that a state reaching several zones is followed by one update for all of them is the
model's choice (log 8). -/
def Obligations.SampleStates : Prop :=
  (∀ (i : Fin 6) (s : State),
     ((s.dmu.zones.get i).sample = .held →
       exec (.holdExpiry i) s = .next (settle [.demandUpdate] { s with dmu := { s.dmu with
         zones := s.dmu.zones.set i { s.dmu.zones.get i with sample := .stale, holdExpiry := none } } }))
     ∧ ((s.dmu.zones.get i).sample ≠ .held → exec (.holdExpiry i) s = .next s))
  ∧ (∀ (address : Nat) (state : NodeState) (i : Fin 6) (s : State) (z z' : Zone) (hold : Nat),
       z = s.dmu.zones.get i → z' = (route (.nodeState address state) s).1.dmu.zones.get i →
       hold = s.mc.settings.holdTime * 1000 → state ≠ .live →
       ((z.entry.node = address ∧ address ≠ 0) → z.sample = .fresh →
         (∀ t, z.lastAccept = some t → (s.iu.timeBase - t).toNat < hold →
           z' = { z with sample := .held, holdExpiry := some (t + BitVec.ofNat 32 hold) })
         ∧ (∀ t, z.lastAccept = some t → hold ≤ (s.iu.timeBase - t).toNat →
           z' = { z with sample := .stale, holdExpiry := none })
         ∧ (z.lastAccept = none → z' = { z with sample := .stale, holdExpiry := none }))
       ∧ (z.entry.node ≠ address ∨ address = 0 ∨ z.sample ≠ .fresh → z' = z)
       ∧ ((route (.nodeState address state) s).2 =
         if ∃ j, (s.dmu.zones.get j).entry.node = address ∧ address ≠ 0 then [.demandUpdate] else []))

/-- The demand fields of a zone after a demand update, and that the update changes no sample state, no last value and no
entry: in Fresh and Held the cleaning demand, the drying error, the drying demand and the zone demand of their formulas, in
Stale and NoNode 0 and absent. -/
def Obligations.DemandFields : Prop :=
  ∀ (i : Fin 6) (s : State) (z z' : Zone),
    z = s.dmu.zones.get i → z' = (route .demandUpdate s).1.dmu.zones.get i →
    (z'.entry = z.entry ∧ z'.sample = z.sample ∧ z'.pm25 = z.pm25 ∧ z'.rh = z.rh ∧ z'.temperature = z.temperature
      ∧ z'.lastAccept = z.lastAccept ∧ z'.holdExpiry = z.holdExpiry)
    ∧ (z.sample = .stale ∨ z.sample = .noNode → z'.dPm = 0 ∧ z'.err = none ∧ z'.dRh = 0 ∧ z'.d = 0)
    ∧ (z.sample = .fresh ∨ z.sample = .held →
      (z.pm25 = none → z'.dPm = 0)
      ∧ (∀ p : Nat, z.pm25 = some p → p ≤ z.entry.pmTarget ∨ s.dmu.filterMissing = true → z'.dPm = 0)
      ∧ (∀ p : Nat, z.pm25 = some p → z.entry.pmTarget < p → s.dmu.filterMissing = false →
        z'.dPm = min 1000 ((p - z.entry.pmTarget) * z.entry.gain / 4))
      ∧ (z.rh = none → z'.err = none ∧ z'.dRh = 0)
      ∧ (∀ h : Nat, z.rh = some h → z'.err = some ((h : Int) - z.entry.rhTarget)
        ∧ z'.dRh = (if z.entry.drying = true ∧ z.entry.rhTarget < h ∧ s.dmu.dryingActive = true
          then min 1000 ((h - z.entry.rhTarget) * 10) else 0))
      ∧ z'.d = (if z.entry.enabled = true then max z'.dPm z'.dRh else 0))

/-- The drying call after a demand update. A call that is off turns on exactly when some qualifying zone's drying error
is at or above the call-on threshold; a call that is on turns off exactly when every qualifying zone's error is at or below
the call-off threshold, so also when no zone qualifies. A change is delivered to the DS, and only a change; that it stands
last among the update's deliveries is the model's choice (log 7). The call does not depend on the DS state or the unit
mode. -/
def Obligations.DryingCall : Prop :=
  ∀ (s : State) (qualifies : Fin 6 → Int → Prop),
    qualifies = (fun i e => (s.dmu.zones.get i).entry.enabled = true ∧ (s.dmu.zones.get i).entry.drying = true
      ∧ ((s.dmu.zones.get i).sample = .fresh ∨ (s.dmu.zones.get i).sample = .held)
      ∧ ∃ h : Nat, (s.dmu.zones.get i).rh = some h ∧ e = (h : Int) - (s.dmu.zones.get i).entry.rhTarget) →
    (s.dmu.call = false →
      ((route .demandUpdate s).1.dmu.call = true ↔ ∃ i e, qualifies i e ∧ s.mc.settings.callOn ≤ e))
    ∧ (s.dmu.call = true →
      ((route .demandUpdate s).1.dmu.call = false ↔ ∀ i e, qualifies i e → e ≤ s.mc.settings.callOff))
    ∧ (∀ on, .dryingCall on ∈ (route .demandUpdate s).2 ↔
      (route .demandUpdate s).1.dmu.call = on ∧ on ≠ s.dmu.call)
    ∧ (∀ on, (route .demandUpdate s).1.dmu.call = on → on ≠ s.dmu.call →
      (route .demandUpdate s).2.getLast? = some (.dryingCall on))

/-- The demanded duty after a demand update, from D, the largest of the six zone demands. In Off, Standby and Service it is
0; in Run and Quiet it is the idle duty, or the idle duty plus D × (cap − idle duty) ÷ 1000, raised to the coil minimum while
drying is active and then lowered to the cap. It is delivered to the BD at every update in every mode, and D to the MC. -/
def Obligations.DemandedDuty : Prop :=
  ∀ (s : State) (u : Settings) (D cap : Nat) (base : Int),
    u = s.mc.settings → D = (route .demandUpdate s).1.dmu.largest →
    cap = (if s.mc.mode = .run then u.runCap else u.quietCap) →
    base = (if D = 0 then (u.idleDuty : Int)
      else u.idleDuty + ((D : Int) * ((cap : Int) - u.idleDuty)).tdiv 1000) →
    (∀ i, ((route .demandUpdate s).1.dmu.zones.get i).d ≤ D)
    ∧ (∃ i, ((route .demandUpdate s).1.dmu.zones.get i).d = D)
    ∧ (s.mc.mode = .off ∨ s.mc.mode = .standby ∨ s.mc.mode = .service →
      (route .demandUpdate s).1.dmu.demandedDuty = 0)
    ∧ (s.mc.mode = .run ∨ s.mc.mode = .quiet →
      ((route .demandUpdate s).1.dmu.demandedDuty : Int) =
        min (cap : Int) (if s.dmu.dryingActive = true then max (u.coilMinimum : Int) base else base))
    ∧ .demandedDuty (route .demandUpdate s).1.dmu.demandedDuty ∈ (route .demandUpdate s).2
    ∧ .largestDemand D ∈ (route .demandUpdate s).2

/-- The opening of every zone and the target of every fitted damper after a demand update. In Run and Quiet every fitted
damper's target is delivered; in the other modes none is (R41). -/
def Obligations.OpeningsAndTargets : Prop :=
  ∀ (i : Fin 6) (s : State) (z' : Zone) (e : DamperEntry),
    z' = (route .demandUpdate s).1.dmu.zones.get i → e = (s.dp.dampers.get i).entry →
    (z'.entry.enabled = false → z'.opening = 0)
    ∧ (z'.entry.enabled = true → (∃ j, 0 < ((route .demandUpdate s).1.dmu.zones.get j).d) →
      z'.opening = e.bleed + z'.d * (1000 - e.bleed) / 1000)
    ∧ (z'.entry.enabled = true → (∀ j, ((route .demandUpdate s).1.dmu.zones.get j).d = 0) → z'.opening = e.rest)
    ∧ (e.fitted = true → z'.target = some (z'.opening * e.travel / 1000))
    ∧ (e.fitted = false → z'.target = none)
    ∧ (∀ t, .damperTarget i t ∈ (route .demandUpdate s).2 ↔
      (s.mc.mode = .run ∨ s.mc.mode = .quiet) ∧ z'.target = some t)

/-- Set Zone Targets, taken when it arrives: BadIndex for a zone number outside 0 to 5; else both targets are clamped and
stored, the other fields and the runtime record are kept, the reply is Clamped if either value was changed and Done if not,
and a demand update follows, in every mode and for a disabled zone too. -/
def Obligations.SetZoneTargets : Prop :=
  ∀ (tag zone : Byte) (pm rh : Half) (s : State), linkReady s.pl = true →
    (6 ≤ zone.toNat →
      exec (.setZoneTargets tag zone pm rh) s = .next (replyWith tag 0x02#8 .badIndex [] s))
    ∧ (∀ (i : Fin 6) (pm' rh' : Nat) (z z' : Zone), zone.toNat = i.val →
      pm' = max 5 (min 500 pm.toNat) → rh' = max 300 (min 700 rh.toNat) → z = s.dmu.zones.get i →
      z' = { z with entry := { z.entry with pmTarget := pm', rhTarget := rh' } } →
      exec (.setZoneTargets tag zone pm rh) s =
        .next (replyWith tag 0x02#8 (if pm' = pm.toNat ∧ rh' = rh.toNat then .done else .clamped) []
          (settle [.demandUpdate] { s with dmu := { s.dmu with zones := s.dmu.zones.set i z' } })))

/-- Load Zone Entry, taken when it arrives: BadIndex for a zone number outside 0 to 5, then BadTable for a field outside
Table 2-1, then BadIndex for a sensor node address other than 0 that lies outside 1 to 30 or has no node record; else the
entry is replaced, the runtime record bound to the address, the reply Done, and a demand update follows.
The binding (R29): address 0 gives NoNode and no values; a Live record gives Fresh and a Missing or Lost one Held, within the
hold time of its last accept time, or Stale, each with the record's last values; an Unknown record gives Stale and no
values. Only Held has a hold expiry, one hold time after the last accept time. The entry and the demand fields stay. -/
def Obligations.LoadZoneEntry : Prop :=
  (∀ (tag zone enabled address : Byte) (pm : Half) (gain : Byte) (rh : Half) (drying : Byte) (s : State) (inRange : Prop)
    (e : ZoneEntry),
    linkReady s.pl = true →
    (inRange ↔ enabled.toNat ≤ 1 ∧ drying.toNat ≤ 1 ∧ 5 ≤ pm.toNat ∧ pm.toNat ≤ 500 ∧ 1 ≤ gain.toNat
      ∧ 300 ≤ rh.toNat ∧ rh.toNat ≤ 700) →
    e = ⟨decide (enabled = 1#8), address.toNat, pm.toNat, gain.toNat, rh.toNat, decide (drying = 1#8)⟩ →
    (6 ≤ zone.toNat →
      exec (.loadZoneEntry tag zone enabled address pm gain rh drying) s = .next (replyWith tag 0x03#8 .badIndex [] s))
    ∧ (∀ i : Fin 6, zone.toNat = i.val →
      (¬ inRange →
        exec (.loadZoneEntry tag zone enabled address pm gain rh drying) s = .next (replyWith tag 0x03#8 .badTable [] s))
      ∧ (inRange → e.node ≠ 0 → 30 < e.node ∨ findNode e.node s.iu.nodes = none →
        exec (.loadZoneEntry tag zone enabled address pm gain rh drying) s = .next (replyWith tag 0x03#8 .badIndex [] s))
      ∧ (inRange → e.node = 0 ∨ (e.node ≤ 30 ∧ ∃ r, findNode e.node s.iu.nodes = some r) →
        exec (.loadZoneEntry tag zone enabled address pm gain rh drying) s =
          .next (replyWith tag 0x03#8 .done [] (settle [.demandUpdate] { s with dmu := { s.dmu with
            zones := s.dmu.zones.set i (bindZone s.mc.settings.holdTime s.iu.timeBase (findNode e.node s.iu.nodes)
              { s.dmu.zones.get i with entry := e }) } })))))
  ∧ (∀ (seconds : Nat) (now : Word) (found : Option NodeRecord) (r : NodeRecord) (z empty copy : Zone),
       empty = { z with pm25 := none, rh := none, temperature := none, lastAccept := none, holdExpiry := none } →
       copy = { z with
         pm25 := r.last.pm25, rh := r.last.rh, temperature := r.last.temperature, lastAccept := r.lastAccept
         holdExpiry := none } →
       (z.entry.node = 0 → bindZone seconds now found z = { empty with sample := .noNode })
       ∧ (z.entry.node ≠ 0 → r.state = .live → bindZone seconds now (some r) z = { copy with sample := .fresh })
       ∧ (z.entry.node ≠ 0 → r.state = .unknown → bindZone seconds now (some r) z = { empty with sample := .stale })
       ∧ (∀ t, z.entry.node ≠ 0 → r.state = .missing ∨ r.state = .lost → r.lastAccept = some t →
         (now - t).toNat < seconds * 1000 → bindZone seconds now (some r) z =
           { copy with sample := .held, holdExpiry := some (t + BitVec.ofNat 32 (seconds * 1000)) })
       ∧ (∀ t, z.entry.node ≠ 0 → r.state = .missing ∨ r.state = .lost → r.lastAccept = some t →
         seconds * 1000 ≤ (now - t).toNat → bindZone seconds now (some r) z = { copy with sample := .stale })
       ∧ (z.entry.node ≠ 0 → r.state = .missing ∨ r.state = .lost → r.lastAccept = none →
         bindZone seconds now (some r) z = { copy with sample := .stale }))

/-! ### The blower (Chapter 3) -/

/-- A ramp tick. The air allowance L is the fixed share plus the six shares less the six pending reductions, between 0 and
1000. An applied duty above L is cut to L at once and the cut count increases; else in Stopped and Running it moves one step
of the band chosen before the step (the first whose ceiling is above the applied duty, or the last) toward the lesser of the
staged demand and L, never past it; in Retry-Wait and Fault it stays. The profile in use is the quiet profile in Quiet and the
run profile in every other mode. The dampers record the reductions taken (R78), and the next tick is 100 ms away.
How a ramp tick settles the blower state after the applied duty, and what it delivers. Stopped becomes Running when the
duty has left 0, with the healthy-run timer of 60 s; Running becomes Stopped when the duty is 0, with the finish cause of the
mode; otherwise state, finish cause and healthy-run timer stay. The retry count, the speed, the profiles and the run hours
stay. A change of the applied duty is delivered, and the limit-met report is made exactly when a pending reduction was taken
into L and the applied duty is at or below L. The stall timer runs on under its three conditions and is cancelled otherwise,
but for one that has expired: it stands, still to be taken, while the blower is Running with speed 0 (the model's reading of
R58's tie, log 38).
The PWM output is high for applied duty × 40 ns of each period of 40 µs: never at 0, throughout at 1000 (R45; where in the
period the edge falls is not modelled, log 4). -/
def Obligations.RampTick : Prop :=
  (∀ (s : State) (L target : Nat) (profile : List Band) (band : Band) (r : Blower × List Signal),
     (L : Int) = min 1000 (max 0 ((s.mc.settings.fixedShare : Int) + shareSum s.dp.dampers - pendingSum s.dp.dampers)) →
     profile = s.bd.profiles.get (if s.mc.mode = .quiet then s.mc.settings.quietProfile else s.mc.settings.runProfile) →
     profileInRange profile = true →
     band = ((profile.find? fun b => decide (s.bd.applied < b.ceiling)).or profile.getLast?).getD ⟨0, 0, 0⟩ →
     target = min s.bd.staged L →
     r = blowerTick s.mc s.dp.dampers s.bd →
     exec .rampTick s = .next (settle r.2 { s with
       bd := r.1
       dp := ⟨s.dp.dampers.map fun d => if d.state = .waiting then { d with covered := some d.pending } else d⟩ })
     ∧ r.1.allowance = L ∧ r.1.rampLeft = 100
     ∧ (L < s.bd.applied → r.1.applied = L ∧ r.1.cuts = s.bd.cuts + 1#16)
     ∧ (s.bd.applied ≤ L → r.1.cuts = s.bd.cuts)
     ∧ (s.bd.applied ≤ L → s.bd.state = .stopped ∨ s.bd.state = .running →
       r.1.applied = if s.bd.applied < target then min target (s.bd.applied + band.rise)
         else if target < s.bd.applied then max target (s.bd.applied - band.fall) else s.bd.applied)
     ∧ (s.bd.applied ≤ L → s.bd.state = .retryWait ∨ s.bd.state = .fault → r.1.applied = s.bd.applied))
  ∧ (∀ (mc : ModeControl) (d : Six Damper) (bd after : Blower) (deliveries : List Signal),
       blowerTick mc d bd = (after, deliveries) →
       (bd.state = .stopped → 0 < after.applied → after.state = .running ∧ after.healthyLeft = some 60000
         ∧ after.finish = bd.finish)
       ∧ (bd.state = .running → after.applied = 0 → after.state = .stopped ∧ after.healthyLeft = none
         ∧ after.finish = (match mc.mode with
           | .run => .demand
           | .quiet => .demand
           | .off => .mode
           | .standby => .mode
           | .service => .service))
       ∧ (¬ (bd.state = .stopped ∧ 0 < after.applied) → ¬ (bd.state = .running ∧ after.applied = 0) →
         after.state = bd.state ∧ after.healthyLeft = bd.healthyLeft ∧ after.finish = bd.finish)
       ∧ (after.staged = bd.staged ∧ after.profiles = bd.profiles ∧ after.chain = bd.chain ∧ after.speed = bd.speed
         ∧ after.retryCount = bd.retryCount ∧ after.noCaptureLeft = bd.noCaptureLeft ∧ after.retryLeft = bd.retryLeft
         ∧ after.runFraction = bd.runFraction ∧ after.runSeconds = bd.runSeconds)
       ∧ after.stallLeft = (if after.state = .running ∧ bd.speed = 0 ∧ (150 ≤ after.applied ∨ bd.stallLeft = some 0)
         then some (bd.stallLeft.getD 1000) else none)
       ∧ deliveries = (if after.applied = bd.applied then [] else [.appliedDuty after.applied])
         ++ (if 0 < pendingSum d ∧ after.applied ≤ after.allowance then [.limitMet after.applied (pendingSum d)] else []))
  ∧ (∀ bd : Blower, pwmHigh bd = bd.applied * 40 ∧ (bd.applied = 0 → pwmHigh bd = 0)
       ∧ (bd.applied = 1000 → pwmHigh bd = 40000) ∧ (bd.applied ≤ 1000 → pwmHigh bd ≤ 40000))

/-- The law of the allowance: the applied duty never exceeds the lesser of 1000 and the fixed share plus the sum of all damper
shares. With what keeps it (every damper's invariant, a pending and a covered reduction at most the share, the applied duty
with the covered reductions at most the fixed share plus the shares) it is kept by every step from every state.
The stall timer stands exactly while the blower is Running with speed 0 and an applied duty of 150 or more, or with the timer
expired and its expiry still to be taken (log 38), and never for more than 1000 ms: a law that every step keeps. -/
def Obligations.BlowerLawsAreKept : Prop :=
  ((∀ s : State, allowanceInvariant s = true →
     s.bd.applied ≤ 1000 ∧ s.bd.applied ≤ s.mc.settings.fixedShare + shareSum s.dp.dampers)
   ∧ ∀ s t : State, allowanceInvariant s = true → step s = .next t → allowanceInvariant t = true)
  ∧ (∀ s t : State,
       ((s.bd.stallLeft.isSome ↔
           s.bd.state = .running ∧ s.bd.speed = 0 ∧ (150 ≤ s.bd.applied ∨ s.bd.stallLeft = some 0))
         ∧ leftOf s.bd.stallLeft ≤ 1000) →
       step s = .next t →
       (t.bd.stallLeft.isSome ↔
           t.bd.state = .running ∧ t.bd.speed = 0 ∧ (150 ≤ t.bd.applied ∨ t.bd.stallLeft = some 0))
         ∧ leftOf t.bd.stallLeft ≤ 1000)

/-- A rising edge of the tach input, at an instant in µs that the command brings (log 12): without a reference it becomes the
reference; an edge short of N is counted; the N-th is a capture, which computes the speed, restarts the no-capture timer and
leaves the stall timer running only under its conditions, or expired with speed 0 (log 38). The no-capture expiry sets the speed to 0 and takes the reference
away; without that timer the command has no effect (log 2). -/
def Obligations.TachAndCapture : Prop :=
  ∀ (instant : Nat) (s : State) (N P time : Nat),
    N = s.mc.settings.edges → P = s.mc.settings.pulses → time = max 1 (instant - s.bd.chain.lastCapture) →
    (s.bd.chain.reference = false →
      exec (.tachEdge instant) s = .next { s with bd := { s.bd with
        chain := ⟨true, 0, instant⟩, noCaptureLeft := some 1000 } })
    ∧ (s.bd.chain.reference = true → s.bd.chain.edges + 1 < N →
      exec (.tachEdge instant) s = .next { s with bd := { s.bd with
        chain := ⟨true, s.bd.chain.edges + 1, s.bd.chain.lastCapture⟩ } })
    ∧ (s.bd.chain.reference = true → N ≤ s.bd.chain.edges + 1 →
      exec (.tachEdge instant) s = .next { s with bd := { s.bd with
        speed := min 4000 (60000000 * N / (P * time))
        chain := ⟨true, 0, instant⟩
        noCaptureLeft := some 1000
        stallLeft := if s.bd.state = .running ∧ min 4000 (60000000 * N / (P * time)) = 0
              ∧ (150 ≤ s.bd.applied ∨ s.bd.stallLeft = some 0) then
            some (s.bd.stallLeft.getD 1000)
          else none } })
    ∧ (∀ n, s.bd.noCaptureLeft = some n →
      exec .noCaptureExpiry s = .next { s with bd := { s.bd with
        speed := 0
        chain := { s.bd.chain with reference := false }
        noCaptureLeft := none
        stallLeft := if s.bd.state = .running ∧ (150 ≤ s.bd.applied ∨ s.bd.stallLeft = some 0) then
            some (s.bd.stallLeft.getD 1000)
          else none } })
    ∧ (s.bd.noCaptureLeft = none → exec .noCaptureExpiry s = .next s)

/-- The stall timer expires: the applied duty becomes 0 at once and is delivered to the DS, the retry count increases, the
healthy-run timer is cancelled. The first and second consecutive stall lead to Retry-Wait with the 5 s retry timer, cause
Stall and BlowerStall; the third to Fault, cause Fault, BlowerFault and the report to the DS. Without the timer the command
has no effect (log 2).
The retry timer expires: Running with applied duty 0 and the healthy-run timer of 60 s. The healthy-run timer expires: the
retry count becomes 0. A second of running time: the count increases to at most its largest value, the fraction returns to 0,
and a checkpoint under key BH is queued when the count reaches a whole hour. Without the timer, and for the second while
nothing runs, the commands have no effect (log 2, log 35). -/
def Obligations.BlowerTimers : Prop :=
  (∀ (s : State) (stopped : Blower) (fell : List Signal),
     stopped = { s.bd with applied := 0, retryCount := s.bd.retryCount + 1, healthyLeft := none, stallLeft := none } →
     fell = (if s.bd.applied = 0 then [] else [.appliedDuty 0]) →
     (∀ n, s.bd.stallLeft = some n → s.bd.retryCount + 1 < 3 →
       exec .stallTimerExpiry s = .next (settle (fell ++ [.notice .blowerStall none])
         { s with bd := { stopped with state := .retryWait, finish := .stall, retryLeft := some 5000 } }))
     ∧ (∀ n, s.bd.stallLeft = some n → 3 ≤ s.bd.retryCount + 1 →
       exec .stallTimerExpiry s = .next (settle (fell ++ [.notice .blowerFault none, .blowerFaulted true])
         { s with bd := { stopped with state := .fault, finish := .fault } }))
     ∧ (s.bd.stallLeft = none → exec .stallTimerExpiry s = .next s))
  ∧ (∀ (s : State) (seconds : Nat), seconds = min 4294967295 (s.bd.runSeconds + 1) →
       (∀ n, s.bd.retryLeft = some n →
         exec .retryTimerExpiry s = .next { s with bd := { s.bd with
           state := .running, applied := 0, retryLeft := none, healthyLeft := some 60000, stallLeft := none } })
       ∧ (s.bd.retryLeft = none → exec .retryTimerExpiry s = .next s)
       ∧ (∀ n, s.bd.healthyLeft = some n →
         exec .healthyRunExpiry s = .next { s with bd := { s.bd with retryCount := 0, healthyLeft := none } })
       ∧ (s.bd.healthyLeft = none → exec .healthyRunExpiry s = .next s)
       ∧ (0 < s.bd.applied → s.bd.runSeconds < 4294967295 → seconds % 3600 = 0 →
         exec .runHoursSecond s = .next { s with
           bd := { s.bd with runFraction := 0, runSeconds := seconds }
           nvs := handItem (runHourItem seconds) s.nvs })
       ∧ (0 < s.bd.applied → s.bd.runSeconds = 4294967295 ∨ seconds % 3600 ≠ 0 →
         exec .runHoursSecond s = .next { s with bd := { s.bd with runFraction := 0, runSeconds := seconds } })
       ∧ (s.bd.applied = 0 → s.bd.runFraction < 1000 → exec .runHoursSecond s = .next s))

/-! ### The dampers (Chapter 4) -/

/-- A step of a move, the home switch showing `home` at it (log 9). The position changes by one step toward the target; then,
above 20 steps, an asserted switch is a slip: the damper stands at 0 with cause Slip, DamperSlip is posted, and it waits for
the release of its share, or with share 0 heads for its target, or settles closed; at 0 an asserted switch is the arrival and
an open one begins the seek; else at the target it arrives with its share set from its position; else the move goes on. At a
damper that makes no move the command only shows the switch (log 2). -/
def Obligations.MoveStep : Prop :=
  ∀ (i : Fin 6) (home : Bool) (s : State) (d shown : Damper) (put : Damper → State),
    d = s.dp.dampers.get i → shown = { d with homeSwitch := home } →
    put = (fun x => { s with dp := ⟨s.dp.dampers.set i x⟩ }) →
    (∀ (p t p' : Nat) (stepped : Damper),
      d.state = .moving → d.seeking = false → d.position = some p → d.target = some t →
      p' = (if p < t then p + 1 else if t < p then p - 1 else p) →
      stepped = { shown with position := some p', towardOpen := decide (p < t), stepLeft := some 5 } →
      (20 < p' → home = true → 0 < d.share →
        exec (.moveStep i home) s = .next (settle [.notice .damperSlip (some (octet i.val))]
          (put { stepped with state := .waiting, position := some 0, finish := .slip, pending := d.share, covered := none
                              stepLeft := none })))
      ∧ (20 < p' → home = true → d.share = 0 → 0 < t →
        exec (.moveStep i home) s = .next (settle [.notice .damperSlip (some (octet i.val))]
          (put { stepped with position := some 0, finish := .slip, towardOpen := true })))
      ∧ (20 < p' → home = true → d.share = 0 → t = 0 →
        exec (.moveStep i home) s = .next (settle [.notice .damperSlip (some (octet i.val))]
          (put { stepped with state := .settled, position := some 0, finish := .arrived, stepLeft := none })))
      ∧ (p' = 0 → home = true →
        exec (.moveStep i home) s = .next (put { stepped with
          state := .settled, share := 0, finish := .arrived, stepLeft := none }))
      ∧ (p' = 0 → home = false →
        exec (.moveStep i home) s = .next (put { stepped with
          seeking := true, confirmCount := 0, towardOpen := false, stepLeft := some 10 }))
      ∧ (0 < p' → p' ≤ 20 ∨ home = false → p' = t →
        exec (.moveStep i home) s = .next (put { stepped with
          state := .settled, share := p' * 1000 / d.entry.travel, finish := .arrived, stepLeft := none }))
      ∧ (0 < p' → p' ≤ 20 ∨ home = false → p' ≠ t → exec (.moveStep i home) s = .next (put stepped)))
    ∧ (d.state ≠ .moving ∨ d.seeking = true → exec (.moveStep i home) s = .next (put shown))

/-- A step of a homing: the count increases; an asserted switch ends it at position 0, share 0 and cause Arrived, and a target
above 0 starts a move at once; travel + 200 steps without the switch make the damper Faulted with cause HomeNotFound and
DamperFault; else it goes on. A step of the seek after a close counts without moving; an asserted switch is the arrival at 0;
the 40th step without it makes the damper Faulted with cause HomeLost and DamperFault, its position held. At a damper that
does neither the commands only show the switch (log 2). -/
def Obligations.HomingAndSeekSteps : Prop :=
  ∀ (i : Fin 6) (home : Bool) (s : State) (d shown homed sought : Damper) (put : Damper → State),
    d = s.dp.dampers.get i → shown = { d with homeSwitch := home } →
    homed = { shown with homingCount := d.homingCount + 1, towardOpen := false, stepLeft := some 10 } →
    sought = { shown with confirmCount := d.confirmCount + 1, stepLeft := some 10 } →
    put = (fun x => { s with dp := ⟨s.dp.dampers.set i x⟩ }) →
    (d.state = .homing → home = true → d.target = none ∨ d.target = some 0 →
      exec (.homingStep i home) s = .next (put { homed with
        state := .settled, position := some 0, share := 0, finish := .arrived, seeking := false, stepLeft := none }))
    ∧ (∀ t, d.state = .homing → home = true → d.target = some t → 0 < t →
      exec (.homingStep i home) s = .next (put { homed with
        state := .moving, position := some 0, share := 0, finish := .arrived, seeking := false, towardOpen := true
        stepLeft := some 5 }))
    ∧ (d.state = .homing → home = false → d.entry.travel + 200 ≤ d.homingCount + 1 →
      exec (.homingStep i home) s = .next (settle [.notice .damperFault (some (octet i.val))] (put { homed with
        state := .faulted, position := none, finish := .homeNotFound, stepLeft := none })))
    ∧ (d.state = .homing → home = false → d.homingCount + 1 < d.entry.travel + 200 →
      exec (.homingStep i home) s = .next (put homed))
    ∧ (d.state ≠ .homing → exec (.homingStep i home) s = .next (put shown))
    ∧ (d.state = .moving → d.seeking = true → d.position = some 0 → home = true →
      exec (.seekStep i home) s = .next (put { sought with
        state := .settled, share := 0, finish := .arrived, seeking := false, stepLeft := none }))
    ∧ (d.state = .moving → d.seeking = true → home = false → 40 ≤ d.confirmCount + 1 →
      exec (.seekStep i home) s = .next (settle [.notice .damperFault (some (octet i.val))] (put { sought with
        state := .faulted, finish := .homeLost, seeking := false, stepLeft := none })))
    ∧ (d.state = .moving → d.seeking = true → home = false → d.confirmCount + 1 < 40 →
      exec (.seekStep i home) s = .next (put sought))
    ∧ (d.state ≠ .moving ∨ d.seeking = false → exec (.seekStep i home) s = .next (put shown))

/-- A new target at a damper, lowered to the travel when it is above it, by the damper's state (Table 4-4), with q the lesser
of the openings of target and position. A damper in Settled waits when q is below its share, else moves to the target with its
share kept; a Moving one is re-decided from where it stands with cause Retargeted; a Waiting one has its reduction recomputed
or proceeds; the other states record the target or discard it. A target equal to the one held changes nothing; that this is
judged after the lowering is the model's reading (log 17). A close with nothing left to go is decided by the switch. An
abandoned seek takes its first step 5 ms after the last seek step, or at once where that instant has passed (log 37).
A limit-met report releases, all at once, every Waiting damper whose pending reduction is at most its covered one: its
share falls by the reduction and it proceeds, moving toward its target, or Settled where it already stands there. Every other
damper stays as it was, and nothing but the dampers changes.
What a mode change does to a damper. Into Service a stepping damper stops: a Moving one is Settled where it stands with its
share set from there and its target its position, a Homing one Unhomed, both with cause Mode; the others stay. Out of Service
every fitted Unhomed damper starts homing, which an asserted switch ends before its first step, and the others stay. Any other change leaves every damper as it was. -/
def Obligations.DamperTargetsAndModes : Prop :=
  (∀ (given t p q : Nat) (d recorded : Damper),
     t = min given d.entry.travel → recorded = { d with target := some t } → d.target ≠ some t →
     q = min (t * 1000 / d.entry.travel) (p * 1000 / d.entry.travel) →
     (d.state = .unfitted → takeTarget false given d = d)
     ∧ (d.state = .unhomed ∨ d.state = .homing ∨ d.state = .faulted → takeTarget false given d = recorded)
     ∧ (d.state = .settled → d.position = some p → d.seeking = false →
       (q < d.share → takeTarget false given d =
         { recorded with state := .waiting, pending := d.share - q, covered := none, stepLeft := none })
       ∧ (d.share ≤ q → t ≠ p → takeTarget false given d =
         { recorded with state := .moving, towardOpen := decide (p < t), stepLeft := some 5 })
       ∧ (d.share ≤ q → t = p → t ≠ 0 → takeTarget false given d =
         { recorded with share := p * 1000 / d.entry.travel, stepLeft := none })
       ∧ (d.share ≤ q → t = 0 → p = 0 → takeTarget false given d =
         if d.homeSwitch then { recorded with share := 0, finish := .arrived, stepLeft := none }
         else { recorded with
           state := .moving, seeking := true, confirmCount := 0, towardOpen := false, stepLeft := some 10 }))
     ∧ (d.state = .moving → d.position = some 0 → d.seeking = true → d.share = 0 → 0 < t →
       takeTarget false given d = { recorded with
         finish := .retargeted, seeking := false, towardOpen := true, stepLeft := d.stepLeft.map (· - 5) })
     ∧ (d.state = .moving → d.position = some p → d.seeking = false →
       (q < d.share → takeTarget false given d = { recorded with
         state := .waiting, finish := .retargeted, pending := d.share - q, covered := none, stepLeft := none })
       ∧ (d.share ≤ q → t ≠ p → takeTarget false given d =
         { recorded with finish := .retargeted, towardOpen := decide (p < t) })
       ∧ (d.share ≤ q → t = p → t ≠ 0 → takeTarget false given d = { recorded with
         state := .settled, finish := .arrived, share := p * 1000 / d.entry.travel, stepLeft := none })
       ∧ (d.share ≤ q → t = 0 → p = 0 → takeTarget false given d =
         if d.homeSwitch then { recorded with state := .settled, share := 0, finish := .arrived, stepLeft := none }
         else { recorded with
           finish := .retargeted, seeking := true, confirmCount := 0, towardOpen := false, stepLeft := some 10 }))
     ∧ (d.state = .waiting → d.position = some p → d.seeking = false →
       (q < d.share → takeTarget false given d = { recorded with pending := d.share - q })
       ∧ (d.share ≤ q → t ≠ p → takeTarget false given d = { recorded with
         state := .moving, pending := 0, covered := none, towardOpen := decide (p < t), stepLeft := some 5 })
       ∧ (d.share ≤ q → t = p → t ≠ 0 → takeTarget false given d = { recorded with
         state := .settled, share := p * 1000 / d.entry.travel, pending := 0, covered := none, stepLeft := none })
       ∧ (d.share ≤ q → t = 0 → p = 0 → takeTarget false given d =
         if d.homeSwitch then { recorded with
           state := .settled, share := 0, finish := .arrived, pending := 0, covered := none, stepLeft := none }
         else { recorded with
           state := .moving, pending := 0, covered := none, seeking := true, confirmCount := 0, towardOpen := false
           stepLeft := some 10 }))
     ∧ (∀ service x, x.target = some (min given x.entry.travel) → x.state ≠ .unhomed →
       takeTarget service given x = x))
  ∧ ((∀ (applied sum : Nat) (s : State) (i : Fin 6) (d d' : Damper),
        d = s.dp.dampers.get i → d' = (route (.limitMet applied sum) s).1.dp.dampers.get i →
        (∀ c p t, d.state = .waiting → d.covered = some c → d.pending ≤ c → d.position = some p → d.target = some t →
          d.seeking = false →
          d.share - d.pending ≤ min (t * 1000 / d.entry.travel) (p * 1000 / d.entry.travel) →
          (t ≠ p → d' = { d with state := .moving, share := d.share - d.pending, pending := 0, covered := none
                                 towardOpen := decide (p < t), stepLeft := some 5 })
          ∧ (t = p → t ≠ 0 → d' = { d with state := .settled, share := p * 1000 / d.entry.travel, pending := 0
                                           covered := none, stepLeft := none })
          ∧ (t = 0 → p = 0 → d' = if d.homeSwitch then { d with
              state := .settled, share := 0, finish := .arrived, pending := 0, covered := none, stepLeft := none }
            else { d with
              state := .moving, share := d.share - d.pending, pending := 0, covered := none, seeking := true
              confirmCount := 0, towardOpen := false, stepLeft := some 10 }))
        ∧ (d.state ≠ .waiting ∨ d.covered = none ∨ (∃ c, d.covered = some c ∧ c < d.pending) → d' = d)
        ∧ (∃ dampers, (route (.limitMet applied sum) s) = ({ s with dp := ⟨dampers⟩ }, [])))
     ∧ (∀ (old new : UnitMode) (d : Damper),
          (∀ p, new = .service → d.state = .moving → d.position = some p →
            damperMode old new d = { d with
              state := .settled, target := some p, share := p * 1000 / d.entry.travel, finish := .mode, seeking := false
              stepLeft := none })
          ∧ (new = .service → d.state = .homing →
            damperMode old new d = { d with
              state := .unhomed, position := none, share := 0, finish := .mode, stepLeft := none })
          ∧ (new = .service → d.state ≠ .moving → d.state ≠ .homing → damperMode old new d = d)
          ∧ (old = .service → new ≠ .service → d.state = .unhomed → d.entry.fitted = true → d.homeSwitch = false →
            damperMode old new d = { d with
              state := .homing, share := 0, homingCount := 0, towardOpen := false, stepLeft := some 10 })
          ∧ (old = .service → new ≠ .service → d.state = .unhomed → d.entry.fitted = true → d.homeSwitch = true →
            (d.target = none ∨ d.target = some 0 → damperMode old new d = { d with
              state := .settled, position := some 0, share := 0, homingCount := 0, finish := .arrived, seeking := false
              towardOpen := false, stepLeft := none })
            ∧ (∀ t, d.target = some t → 0 < t → damperMode old new d = { d with
              state := .moving, position := some 0, share := 0, homingCount := 0, finish := .arrived, seeking := false
              towardOpen := true, stepLeft := some 5 }))
          ∧ (old = .service → new ≠ .service → d.state ≠ .unhomed ∨ d.entry.fitted = false → damperMode old new d = d)
          ∧ (old ≠ .service → new ≠ .service → damperMode old new d = d)))

/-- The law of the dampers, kept by every step: a damper in Settled or Moving has a position between 0 and its travel, and a
share no greater than its position expressed in permille of travel. What keeps it is the invariant of all six dampers (a target
within the travel, a position in Waiting too, and in Moving a share that fits the target as well). -/
def Obligations.DamperLawIsKept : Prop :=
  (∀ (s : State) (i : Fin 6), dampersInvariant s.dp = true →
    (s.dp.dampers.get i).state = .settled ∨ (s.dp.dampers.get i).state = .moving →
    ∃ p, (s.dp.dampers.get i).position = some p ∧ p ≤ (s.dp.dampers.get i).entry.travel
      ∧ (s.dp.dampers.get i).share ≤ p * 1000 / (s.dp.dampers.get i).entry.travel)
  ∧ ∀ s t : State, dampersInvariant s.dp = true → step s = .next t → dampersInvariant t.dp = true

/-- Load Damper Entry, taken when it arrives: BadIndex for a damper number outside 0 to 5, then BadTable for a field outside
Table 4-1, fitted or not, then Busy while the applied duty is above 0 or the damper is Moving or Homing; else the entry is
replaced, the record set afresh with its finish cause kept, homing started for a fitted damper outside Service (found at once
on an asserted switch), the reply Done, and a demand update follows. -/
def Obligations.LoadDamperEntry : Prop :=
  ∀ (tag damper fitted : Byte) (travel bleed rest : Half) (s : State) (inRange busy : Prop) (e : DamperEntry),
    linkReady s.pl = true →
    (inRange ↔ fitted.toNat ≤ 1 ∧ 200 ≤ travel.toNat ∧ travel.toNat ≤ 2000 ∧ bleed.toNat ≤ 500 ∧ rest.toNat ≤ 1000) →
    e = ⟨decide (fitted = 1#8), travel.toNat, bleed.toNat, rest.toNat⟩ →
    (6 ≤ damper.toNat →
      exec (.loadDamperEntry tag damper fitted travel bleed rest) s = .next (replyWith tag 0x08#8 .badIndex [] s))
    ∧ (∀ (i : Fin 6) (d afresh : Damper), damper.toNat = i.val → d = s.dp.dampers.get i →
      (busy ↔ 0 < s.bd.applied ∨ d.state = .moving ∨ d.state = .homing) →
      afresh = { d with
        entry := e, position := none, share := 0, pending := 0, covered := none, homingCount := 0, confirmCount := 0
        seeking := false, stepLeft := none
        state := if e.fitted then .unhomed else .unfitted
        target := if e.fitted then some (e.rest * e.travel / 1000) else none } →
      (¬ inRange →
        exec (.loadDamperEntry tag damper fitted travel bleed rest) s = .next (replyWith tag 0x08#8 .badTable [] s))
      ∧ (inRange → busy →
        exec (.loadDamperEntry tag damper fitted travel bleed rest) s = .next (replyWith tag 0x08#8 .busy [] s))
      ∧ (inRange → ¬ busy → e.fitted = false ∨ s.mc.mode = .service →
        exec (.loadDamperEntry tag damper fitted travel bleed rest) s = .next (replyWith tag 0x08#8 .done []
          (settle [.demandUpdate] { s with dp := ⟨s.dp.dampers.set i afresh⟩ })))
      ∧ (inRange → ¬ busy → e.fitted = true → s.mc.mode ≠ .service → d.homeSwitch = false →
        exec (.loadDamperEntry tag damper fitted travel bleed rest) s = .next (replyWith tag 0x08#8 .done []
          (settle [.demandUpdate] { s with dp := ⟨s.dp.dampers.set i { afresh with
            state := .homing, towardOpen := false, stepLeft := some 10 }⟩ })))
      ∧ (inRange → ¬ busy → e.fitted = true → s.mc.mode ≠ .service → d.homeSwitch = true →
        e.rest * e.travel / 1000 = 0 →
        exec (.loadDamperEntry tag damper fitted travel bleed rest) s = .next (replyWith tag 0x08#8 .done []
          (settle [.demandUpdate] { s with dp := ⟨s.dp.dampers.set i { afresh with
            state := .settled, position := some 0, finish := .arrived, towardOpen := false }⟩ })))
      ∧ (inRange → ¬ busy → e.fitted = true → s.mc.mode ≠ .service → d.homeSwitch = true →
        0 < e.rest * e.travel / 1000 →
        exec (.loadDamperEntry tag damper fitted travel bleed rest) s = .next (replyWith tag 0x08#8 .done []
          (settle [.demandUpdate] { s with dp := ⟨s.dp.dampers.set i { afresh with
            state := .moving, position := some 0, finish := .arrived, towardOpen := true, stepLeft := some 5 }⟩ }))))

/-! ### The drying sequencer (Chapter 7) -/

/-- The start conditions, and what their evaluation in Idle does (R119, R121, R123): failing, the DS stays Idle; with the off
timer running it goes to Ready-Wait; else to Airflow-Wait with 30 s on its timer and drying-active on delivered, and from there
to Running at once when the applied duty held is at the coil minimum: the compressor on, the on timer at 120 s, and the frost
dwell at 60 s when the coil is at or below +5.
A delivery before the compressor runs. In Idle each evaluates the start conditions (R119). In Ready-Wait it leads to Idle
when they no longer hold, with no cause (R120). In Airflow-Wait a change of the applied duty to the coil minimum leads to
Running, and conditions that no longer hold lead to Idle with the cause of Table 7-4 for the one that failed (a delivery
makes only one fail, log 39), the wait cancelled and drying-active off delivered (R121, R126).
Each delivery reaches the DS with its input already set (R118). -/
def Obligations.StartEvaluation : Prop :=
  (∀ (coilMinimum : Nat) (ds : Sequencer) (cold : Bool),
    cold = decide (∃ c, ds.coil = some c ∧ c ≤ 5) →
    (startConditions ds = true ↔
      (ds.mode = .run ∨ ds.mode = .quiet) ∧ ds.call = true ∧ ds.tankBlocked = false ∧ (∃ c, ds.coil = some c)
        ∧ ds.nodeLost = false ∧ ds.faulted = false ∧ ds.state ≠ .lockout)
    ∧ (startConditions ds = false → evaluateIdle coilMinimum ds = (ds, []))
    ∧ (∀ n, startConditions ds = true → ds.offLeft = some n →
      evaluateIdle coilMinimum ds = ({ ds with state := .readyWait }, []))
    ∧ (startConditions ds = true → ds.offLeft = none → ds.applied < coilMinimum →
      evaluateIdle coilMinimum ds =
        ({ ds with state := .airflowWait, airflowWaitLeft := some 30000 }, [.dryingActive true]))
    ∧ (startConditions ds = true → ds.offLeft = none → coilMinimum ≤ ds.applied →
      evaluateIdle coilMinimum ds =
        ({ ds with
            state := .running, compressor := true, airflowWaitLeft := none, onLeft := some 120000
            frostLeft := if cold then some 60000 else none }, [.dryingActive true])))
  ∧ (∀ (coilMinimum : Nat) (event : DsEvent) (ds : Sequencer) (cold : Bool) (cause : CompressorFinish),
       cold = decide (∃ c, ds.coil = some c ∧ c ≤ 5) →
       cause = (if ds.tankBlocked = true then .tankFull
         else if ds.coil = none ∨ ds.nodeLost = true then .sensorLost
         else if ds.mode = .off ∨ ds.mode = .standby then .mode
         else if ds.mode = .service then .service
         else if ds.faulted = true then .blowerFault
         else .satisfied) →
       (ds.state = .idle → ds.service = false → dsDeliver coilMinimum event ds = evaluateIdle coilMinimum ds)
       ∧ (ds.state = .readyWait → startConditions ds = true → dsDeliver coilMinimum event ds = (ds, []))
       ∧ (ds.state = .readyWait → startConditions ds = false →
         dsDeliver coilMinimum event ds = ({ ds with state := .idle }, []))
       ∧ (ds.state = .airflowWait → startConditions ds = true → event = .applied → coilMinimum ≤ ds.applied →
         dsDeliver coilMinimum event ds = ({ ds with
           state := .running, compressor := true, airflowWaitLeft := none, onLeft := some 120000
           frostLeft := if cold then some 60000 else none }, []))
       ∧ (ds.state = .airflowWait → startConditions ds = true → event ≠ .applied ∨ ds.applied < coilMinimum →
         dsDeliver coilMinimum event ds = (ds, []))
       ∧ (ds.state = .airflowWait → startConditions ds = false →
         dsDeliver coilMinimum event ds =
           ({ ds with state := .idle, airflowWaitLeft := none, finish := cause }, [.dryingActive false])))
  ∧ (∀ (s : State) (on : Bool) (duty : Nat) (deliver : DsEvent → Sequencer → Sequencer × List Signal),
       deliver = dsDeliver s.mc.settings.coilMinimum →
       (∀ r, r = deliver .call { s.ds with call := on } → route (.dryingCall on) s = ({ s with ds := r.1 }, r.2))
       ∧ (∀ r, r = deliver .tank { s.ds with tankBlocked := on } → route (.tankReport on) s = ({ s with ds := r.1 }, r.2))
       ∧ (∀ r, r = deliver .fault { s.ds with faulted := on } → route (.blowerFaulted on) s = ({ s with ds := r.1 }, r.2))
       ∧ (∀ r, r = deliver .applied { s.ds with applied := duty } →
         route (.appliedDuty duty) s = ({ s with ds := r.1 }, r.2)))

/-- The off timer expires: Ready-Wait goes to Airflow-Wait as the evaluation in Idle does with the start conditions holding;
Idle without the service compressor evaluates them; any other state only loses the timer. The on timer expires: with the call
off a running compressor goes off, cause Satisfied, the DS goes to Idle and drying-active off is delivered; else only the timer
is gone. Without their timers the commands have no effect (log 2).
The airflow wait expires: the attempt is given up with cause AirflowLow, the off timer starts at 180 s, and the DS goes to
Idle, from where start conditions that still hold lead to Ready-Wait at once (log 16). The airflow grace expires: in Running
the compressor goes off with cause AirflowLow and the DS goes to Idle in the same way; a service compressor goes off. The
frost dwell expires in Running: the compressor goes off with cause Frost, and Defrost is entered with its 600 s timer and
DefrostStart. Without their timers the commands have no effect (log 2).
The defrost max timer expires in Defrost: the timeout count increases; at 3 the DS enters Lockout with CompressorLockout
whatever the tank, at 1 or 2 it goes to Tank-Hold while the tank is blocked, and else to Idle, where the start conditions are
evaluated; drying-active off is delivered. Without the timer the command has no effect (log 2). -/
def Obligations.DryingTimers : Prop :=
  (∀ (s : State) (ended : Sequencer) (r : Sequencer × List Signal),
     ended = { s.ds with offLeft := none } →
     r = evaluateIdle s.mc.settings.coilMinimum { ended with state := .idle } →
     (∀ n, s.ds.offLeft = some n → s.ds.state = .readyWait → startConditions s.ds = true →
       exec .offTimerExpiry s = .next (settle r.2 { s with ds := r.1 }))
     ∧ (∀ n, s.ds.offLeft = some n → s.ds.state = .idle → s.ds.service = false →
       exec .offTimerExpiry s = .next (settle r.2 { s with ds := r.1 }))
     ∧ (∀ n, s.ds.offLeft = some n → s.ds.state ≠ .readyWait → s.ds.state ≠ .idle ∨ s.ds.service = true →
       exec .offTimerExpiry s = .next { s with ds := ended })
     ∧ (s.ds.offLeft = none → exec .offTimerExpiry s = .next s)
     ∧ (∀ n, s.ds.onLeft = some n → s.ds.state = .running → s.ds.call = false →
       exec .onTimerExpiry s = .next (settle [.dryingActive false] { s with ds := { s.ds with
         state := .idle, compressor := false, service := false, finish := .satisfied, offLeft := some 180000
         onLeft := none, graceLeft := none, frostLeft := none } }))
     ∧ (∀ n, s.ds.onLeft = some n → s.ds.state ≠ .running ∨ s.ds.call = true →
       exec .onTimerExpiry s = .next { s with ds := { s.ds with onLeft := none } })
     ∧ (s.ds.onLeft = none → exec .onTimerExpiry s = .next s))
  ∧ (∀ (s : State) (off : Sequencer) (landing : DsState),
       off = { s.ds with
         compressor := false, service := false, offLeft := some 180000, onLeft := none, graceLeft := none
         frostLeft := none } →
       landing = (if startConditions s.ds then .readyWait else .idle) →
       (∀ n, s.ds.airflowWaitLeft = some n → s.ds.state = .airflowWait →
         exec .airflowWaitExpiry s = .next (settle [.dryingActive false] { s with ds := { s.ds with
           state := landing, airflowWaitLeft := none, finish := .airflowLow, offLeft := some 180000 } }))
       ∧ (s.ds.airflowWaitLeft = none → exec .airflowWaitExpiry s = .next s)
       ∧ (∀ n, s.ds.graceLeft = some n → s.ds.state = .running →
         exec .airflowGraceExpiry s = .next (settle [.dryingActive false]
           { s with ds := { off with state := landing, finish := .airflowLow } }))
       ∧ (∀ n, s.ds.graceLeft = some n → s.ds.state = .idle → s.ds.service = true → s.ds.compressor = true →
         exec .airflowGraceExpiry s = .next { s with ds := { off with finish := .airflowLow } })
       ∧ (s.ds.graceLeft = none → exec .airflowGraceExpiry s = .next s)
       ∧ (∀ n, s.ds.frostLeft = some n → s.ds.state = .running →
         exec .frostDwellExpiry s = .next (settle [.notice .defrostStart none]
           { s with ds := { off with state := .defrost, finish := .frost, defrostLeft := some 600000 } }))
       ∧ (s.ds.frostLeft = none → exec .frostDwellExpiry s = .next s))
  ∧ (∀ (s : State) (counted : Sequencer) (r : Sequencer × List Signal),
       counted = { s.ds with timeouts := s.ds.timeouts + 1, defrostLeft := none } →
       r = evaluateIdle s.mc.settings.coilMinimum { counted with state := .idle } →
       (∀ n, s.ds.defrostLeft = some n → s.ds.state = .defrost → 3 ≤ s.ds.timeouts + 1 →
         exec .defrostMaxExpiry s = .next (settle [.notice .compressorLockout none, .dryingActive false]
           { s with ds := { counted with state := .lockout } }))
       ∧ (∀ n, s.ds.defrostLeft = some n → s.ds.state = .defrost → s.ds.timeouts + 1 < 3 → s.ds.tankBlocked = true →
         exec .defrostMaxExpiry s = .next (settle [.dryingActive false]
           { s with ds := { counted with state := .tankHold } }))
       ∧ (∀ n, s.ds.defrostLeft = some n → s.ds.state = .defrost → s.ds.timeouts + 1 < 3 → s.ds.tankBlocked = false →
         exec .defrostMaxExpiry s = .next (settle (.dryingActive false :: r.2) { s with ds := r.1 }))
       ∧ (s.ds.defrostLeft = none → exec .defrostMaxExpiry s = .next s))

/-- The stops of Table 7-4 in Running, whatever the on timer: a blocked tank leads to Tank-Hold with cause TankFull; an absent
coil temperature, a Lost unit node or a Zone Line Reset with SensorLost, Off or Standby with Mode, Service with Service, and a
faulted blower with BlowerFault lead to Idle; the call off stops the compressor with Satisfied when the on timer has run out
and is only noted before (R124). At each the compressor goes off, the off timer starts at 180 s, the on timer, the airflow
grace and the frost dwell are cancelled, and drying-active off is delivered.
The airflow grace and the frost dwell in Running (R125, R127): a change of the applied duty below the coil minimum starts
the grace at 10 s and one at or above it cancels it; a unit reading with the coil at or below +5 starts the dwell at 60 s and
one above it cancels it; a timer that runs is left alone.
A delivery after the compressor has run. In Defrost a unit reading at +50 or above is the thaw: the count returns to 0, and
the DS goes to Tank-Hold while the tank is blocked and else to Idle, where it evaluates; a mode other than Run and Quiet, an
absent coil temperature, a Lost unit node, a Zone Line Reset and a faulted blower end the defrost in Idle with count and cause
kept; nothing else ends it. Tank-Hold is left for Idle on the report of clear alone, and Lockout on no delivery. With the
service compressor on, a blocked tank, a faulted blower and a mode other than Service turn it off with TankFull (to
Tank-Hold), BlowerFault and Service, the grace follows the applied duty, and nothing else has an effect (R133). -/
def Obligations.RunningStops : Prop :=
  (∀ (coilMinimum : Nat) (ds off : Sequencer),
     ds.state = .running →
     off = { ds with
       compressor := false, service := false, offLeft := some 180000, onLeft := none, graceLeft := none
       frostLeft := none } →
     (ds.tankBlocked = true →
       dsDeliver coilMinimum .tank ds = ({ off with state := .tankHold, finish := .tankFull }, [.dryingActive false]))
     ∧ (ds.coil = none →
       dsDeliver coilMinimum .unitReading ds = ({ off with state := .idle, finish := .sensorLost }, [.dryingActive false]))
     ∧ (ds.coil = none →
       dsDeliver coilMinimum .unitLost ds = ({ off with state := .idle, finish := .sensorLost }, [.dryingActive false])
       ∧ dsDeliver coilMinimum .lineReset ds =
         ({ off with state := .idle, finish := .sensorLost }, [.dryingActive false]))
     ∧ (ds.mode = .off ∨ ds.mode = .standby →
       dsDeliver coilMinimum .mode ds = ({ off with state := .idle, finish := .mode }, [.dryingActive false]))
     ∧ (ds.mode = .service →
       dsDeliver coilMinimum .mode ds = ({ off with state := .idle, finish := .service }, [.dryingActive false]))
     ∧ (ds.mode = .run ∨ ds.mode = .quiet → dsDeliver coilMinimum .mode ds = (ds, []))
     ∧ (ds.faulted = true →
       dsDeliver coilMinimum .fault ds = ({ off with state := .idle, finish := .blowerFault }, [.dryingActive false]))
     ∧ (ds.call = false → ds.onLeft = none →
       dsDeliver coilMinimum .call ds = ({ off with state := .idle, finish := .satisfied }, [.dryingActive false]))
     ∧ (∀ n, ds.onLeft = some n → dsDeliver coilMinimum .call ds = (ds, []))
     ∧ (ds.call = true → dsDeliver coilMinimum .call ds = (ds, []))
     ∧ (ds.tankBlocked = false → dsDeliver coilMinimum .tank ds = (ds, []))
     ∧ (ds.faulted = false → dsDeliver coilMinimum .fault ds = (ds, []))
     ∧ dsDeliver coilMinimum .unitOther ds = (ds, []))
  ∧ (∀ (coilMinimum : Nat) (ds : Sequencer), ds.state = .running → ds.compressor = true →
       (ds.applied < coilMinimum →
         dsDeliver coilMinimum .applied ds = ({ ds with graceLeft := some (ds.graceLeft.getD 10000) }, []))
       ∧ (coilMinimum ≤ ds.applied → dsDeliver coilMinimum .applied ds = ({ ds with graceLeft := none }, []))
       ∧ (∀ c, ds.coil = some c → c ≤ 5 →
         dsDeliver coilMinimum .unitReading ds = ({ ds with frostLeft := some (ds.frostLeft.getD 60000) }, []))
       ∧ (∀ c, ds.coil = some c → 5 < c → dsDeliver coilMinimum .unitReading ds = ({ ds with frostLeft := none }, [])))
  ∧ (∀ (coilMinimum : Nat) (ds ended thawed : Sequencer), ds.state = .defrost →
       ended = { ds with state := .idle, defrostLeft := none } → thawed = { ended with timeouts := 0 } →
       (∀ c, ds.coil = some c → 50 ≤ c → ds.tankBlocked = true →
         dsDeliver coilMinimum .unitReading ds = ({ thawed with state := .tankHold }, [.dryingActive false]))
       ∧ (∀ c, ds.coil = some c → 50 ≤ c → ds.tankBlocked = false →
         dsDeliver coilMinimum .unitReading ds =
           ((evaluateIdle coilMinimum thawed).1, .dryingActive false :: (evaluateIdle coilMinimum thawed).2))
       ∧ (∀ c, ds.coil = some c → c < 50 → dsDeliver coilMinimum .unitReading ds = (ds, []))
       ∧ (ds.coil = none → dsDeliver coilMinimum .unitReading ds = (ended, [.dryingActive false])
         ∧ dsDeliver coilMinimum .lineReset ds = (ended, [.dryingActive false]))
       ∧ (ds.nodeLost = true → dsDeliver coilMinimum .unitLost ds = (ended, [.dryingActive false]))
       ∧ (ds.mode = .off ∨ ds.mode = .standby ∨ ds.mode = .service →
         dsDeliver coilMinimum .mode ds = (ended, [.dryingActive false]))
       ∧ (ds.mode = .run ∨ ds.mode = .quiet → dsDeliver coilMinimum .mode ds = (ds, []))
       ∧ (ds.faulted = true → dsDeliver coilMinimum .fault ds = (ended, [.dryingActive false]))
       ∧ (ds.faulted = false → dsDeliver coilMinimum .fault ds = (ds, []))
       ∧ (∀ event, event = .tank ∨ event = .call ∨ event = .applied ∨ event = .unitOther →
         dsDeliver coilMinimum event ds = (ds, [])))
  ∧ (∀ (coilMinimum : Nat) (event : DsEvent) (ds : Sequencer),
       (ds.state = .tankHold → event = .tank → ds.tankBlocked = false →
         dsDeliver coilMinimum event ds = evaluateIdle coilMinimum { ds with state := .idle })
       ∧ (ds.state = .tankHold → event ≠ .tank ∨ ds.tankBlocked = true → dsDeliver coilMinimum event ds = (ds, []))
       ∧ (ds.state = .lockout → dsDeliver coilMinimum event ds = (ds, [])))
  ∧ (∀ (coilMinimum : Nat) (ds off : Sequencer), ds.state = .idle → ds.service = true → ds.compressor = true →
       off = { ds with
         compressor := false, service := false, offLeft := some 180000, onLeft := none, graceLeft := none
         frostLeft := none } →
       (ds.tankBlocked = true →
         dsDeliver coilMinimum .tank ds = ({ off with state := .tankHold, finish := .tankFull }, []))
       ∧ (ds.tankBlocked = false → dsDeliver coilMinimum .tank ds = (ds, []))
       ∧ (ds.faulted = true → dsDeliver coilMinimum .fault ds = ({ off with finish := .blowerFault }, []))
       ∧ (ds.faulted = false → dsDeliver coilMinimum .fault ds = (ds, []))
       ∧ (ds.mode ≠ .service → dsDeliver coilMinimum .mode ds =
         ({ off with state := if startConditions ds then .readyWait else .idle, finish := .service }, []))
       ∧ (ds.mode = .service → dsDeliver coilMinimum .mode ds = (ds, []))
       ∧ (ds.applied < coilMinimum →
         dsDeliver coilMinimum .applied ds = ({ ds with graceLeft := some (ds.graceLeft.getD 10000) }, []))
       ∧ (coilMinimum ≤ ds.applied → dsDeliver coilMinimum .applied ds = ({ ds with graceLeft := none }, []))
       ∧ (∀ event, event = .call ∨ event = .unitReading ∨ event = .unitLost ∨ event = .unitOther ∨ event = .lineReset →
         dsDeliver coilMinimum event ds = (ds, [])))

/-- The compressor laws, kept by every step: the output is never on while the tank the DS holds is blocked nor while the off
timer runs, and whenever it is on, the applied duty the DS holds is at least the coil minimum or the airflow grace runs with at
most its 10 s left. What keeps them is the invariant of the sequencer.
At each compressor off the off timer starts afresh at 180 s: whatever a step does to a compressor that was on, if it is
off after the step the off timer has its full length. -/
def Obligations.CompressorLawsAreKept : Prop :=
  ((∀ (mode : UnitMode) (coilMinimum : Nat) (ds : Sequencer), compressorInvariant mode coilMinimum ds = true →
     ds.compressor = true → ds.tankBlocked = false ∧ ds.offLeft = none
       ∧ (coilMinimum ≤ ds.applied ∨ ∃ n, ds.graceLeft = some n ∧ n ≤ 10000))
   ∧ ∀ s t : State,
     compressorInvariant s.mc.mode s.mc.settings.coilMinimum s.ds = true → step s = .next t →
     compressorInvariant t.mc.mode t.mc.settings.coilMinimum t.ds = true)
  ∧ (∀ s t : State, s.ds.compressor = true → step s = .next t → t.ds.compressor = false → t.ds.offLeft = some 180000)

/-! ### The tank and the pump (Chapter 8) -/

/-- A change of a switch's raw input starts its stability timer afresh at 2 s, and a command that shows the level the input has
changes nothing. When the timer expires, a debounced state equal to the raw input stays; one that differs or is unsettled takes
the raw input, and the level is derived again. Without the timer the expiry has no effect (log 2).
The level of the four debounced switches Present, Low, High and Full (Table 8-1).
A level change at the blocked report, in order: TankFull or TankFault on every entry into Full or Fault; a move into Full,
Fault or Absent blocks the tank with origin Level, cancels the re-arm timer, and is delivered when the report was clear; while
the tank is blocked a move into Empty or Normal from another level starts the re-arm timer at 30 s, a move between the two
leaves it, and a move into High cancels it; while the tank is clear a move into High, Empty or Normal changes nothing in the
report. A derived level equal to the one held changes nothing at all. -/
def Obligations.TankReport : Prop :=
  (∀ (sw : TankSwitch) (closed : Bool) (s : State) (x : SwitchState) (r : Tank × List Signal),
     x = switchOf sw s.tm →
     r = settleLevel s.mc.settings.pumpFitted s.mc.mode
       (setSwitch sw { x with debounced := some x.raw, stabilityLeft := none } s.tm) →
     (x.raw ≠ closed →
       exec (.tankSwitchChange sw closed) s =
         .next { s with tm := setSwitch sw { x with raw := closed, stabilityLeft := some 2000 } s.tm })
     ∧ (x.raw = closed → exec (.tankSwitchChange sw closed) s = .next s)
     ∧ (∀ n, x.stabilityLeft = some n → x.debounced = some x.raw →
       exec (.stabilityTimerExpiry sw) s = .next { s with tm := setSwitch sw { x with stabilityLeft := none } s.tm })
     ∧ (∀ n, x.stabilityLeft = some n → x.debounced ≠ some x.raw →
       exec (.stabilityTimerExpiry sw) s = .next (settle r.2 { s with tm := r.1 }))
     ∧ (x.stabilityLeft = none → exec (.stabilityTimerExpiry sw) s = .next s))
  ∧ (∀ (tm : Tank) (p l h f : Bool),
       ((tm.present.debounced = none ∨ tm.low.debounced = none ∨ tm.high.debounced = none ∨ tm.full.debounced = none) →
         derivedLevel tm = .unsettled)
       ∧ (tm.present.debounced = some p → tm.low.debounced = some l → tm.high.debounced = some h →
         tm.full.debounced = some f →
         (p = false → derivedLevel tm = .absent)
         ∧ (p = true → l = false → h = false → f = false → derivedLevel tm = .empty)
         ∧ (p = true → l = true → h = false → f = false → derivedLevel tm = .normal)
         ∧ (p = true → l = true → h = true → f = false → derivedLevel tm = .high)
         ∧ (p = true → l = true → h = true → f = true → derivedLevel tm = .full)
         ∧ (p = true → (l = false ∧ h = true) ∨ (h = false ∧ f = true) → derivedLevel tm = .fault)))
  ∧ (∀ (fitted : Bool) (mode : UnitMode) (tm after : Tank) (deliveries : List Signal) (new : TankLevel) (blocks : Prop)
       [Decidable blocks],
       new = derivedLevel tm → settleLevel fitted mode tm = (after, deliveries) →
       (blocks ↔ new = .full ∨ new = .fault ∨ new = .absent) →
       (new = tm.level → after = tm ∧ deliveries = [])
       ∧ (new ≠ tm.level →
         after.level = new
         ∧ deliveries = (if new = .full then [.notice .tankFull none] else if new = .fault then [.notice .tankFault none] else [])
           ++ (if blocks ∧ tm.blocked = false then [.tankReport true] else [])
         ∧ (after.blocked = true ↔ tm.blocked = true ∨ blocks)
         ∧ after.origin = (if blocks then .level else tm.origin)
         ∧ (blocks → after.rearmLeft = none)
         ∧ (¬ blocks → tm.blocked = false → after.rearmLeft = tm.rearmLeft)
         ∧ (tm.blocked = true → new = .high → after.rearmLeft = none)
         ∧ (tm.blocked = true → new = .empty ∨ new = .normal →
           after.rearmLeft = if tm.level = .empty ∨ tm.level = .normal then tm.rearmLeft else some 30000)
         ∧ after.present = tm.present ∧ after.low = tm.low ∧ after.high = tm.high ∧ after.full = tm.full))

/-- A level change at the pump, the new level held. An ordinary run ends at Empty with cause Emptied and timeout count 0; any
run ends at Absent with TankRemoved and at Fault with SwitchFault; a rest ends at Absent, Fault and Empty; a pump in Fault whose
tank was Absent becomes Off with count 0; from Off, a fitted pump outside Service starts an ordinary run of at most 90 s at
High or Full; otherwise the pump goes on as it was. -/
def Obligations.PumpAtLevelChange : Prop :=
  ∀ (fitted : Bool) (mode : UnitMode) (old : TankLevel) (tm off : Tank) (starts : Prop) [Decidable starts],
    off = { tm with pump := .off, maxRunLeft := none, serviceRun := false } →
    (starts ↔ fitted = true ∧ mode ≠ .service ∧ (tm.level = .high ∨ tm.level = .full)) →
    (tm.pump = .running →
      (tm.level = .absent → pumpLevelChange fitted mode old tm = { off with finish := .tankRemoved })
      ∧ (tm.level = .fault → pumpLevelChange fitted mode old tm = { off with finish := .switchFault })
      ∧ (tm.level = .empty → tm.serviceRun = false →
        pumpLevelChange fitted mode old tm = { off with finish := .emptied, timeouts := 0 })
      ∧ (tm.level = .empty → tm.serviceRun = true → pumpLevelChange fitted mode old tm = tm)
      ∧ (tm.level = .normal ∨ tm.level = .high ∨ tm.level = .full → pumpLevelChange fitted mode old tm = tm))
    ∧ (tm.pump = .rest →
      pumpLevelChange fitted mode old tm =
        if tm.level = .absent ∨ tm.level = .fault ∨ tm.level = .empty then { tm with pump := .off, restLeft := none }
        else tm)
    ∧ (tm.pump = .fault → old ≠ .absent → pumpLevelChange fitted mode old tm = tm)
    ∧ (tm.pump = .fault → old = .absent →
      pumpLevelChange fitted mode old tm =
        if starts then
          { tm with pump := .running, timeouts := 0, maxRunLeft := some 90000, serviceRun := false }
        else { tm with pump := .off, timeouts := 0 })
    ∧ (tm.pump = .off →
      pumpLevelChange fitted mode old tm =
        if starts then { tm with pump := .running, maxRunLeft := some 90000, serviceRun := false } else tm)

/-- The re-arm timer expires: the tank becomes clear, clear is delivered to the DS, and TankCleared is posted when the block
origin is Level. The maximum run expires: a service run ends with cause Timeout and the pump Off; an ordinary run counts a
timeout and rests for 10 s, or at the third enters Fault with PumpFault. The rest expires: the pump becomes Off and starts a
new ordinary run where the start condition holds. Without their timers the commands have no effect (log 2). -/
def Obligations.TankTimers : Prop :=
  ∀ (s : State) (timeout : Tank),
    timeout = { s.tm with pump := .off, maxRunLeft := none, serviceRun := false, finish := .timeout } →
    (∀ n, s.tm.rearmLeft = some n →
      exec .rearmExpiry s = .next (settle
        (.tankReport false :: if s.tm.origin = .level then [.notice .tankCleared none] else [])
        { s with tm := { s.tm with blocked := false, rearmLeft := none } }))
    ∧ (s.tm.rearmLeft = none → exec .rearmExpiry s = .next s)
    ∧ (∀ n, s.tm.maxRunLeft = some n → s.tm.serviceRun = true →
      exec .maxRunExpiry s = .next { s with tm := timeout })
    ∧ (∀ n, s.tm.maxRunLeft = some n → s.tm.serviceRun = false → s.tm.timeouts + 1 < 3 →
      exec .maxRunExpiry s = .next { s with tm := { timeout with
        timeouts := s.tm.timeouts + 1, pump := .rest, restLeft := some 10000 } })
    ∧ (∀ n, s.tm.maxRunLeft = some n → s.tm.serviceRun = false → 3 ≤ s.tm.timeouts + 1 →
      exec .maxRunExpiry s = .next (settle [.notice .pumpFault none]
        { s with tm := { timeout with timeouts := s.tm.timeouts + 1, pump := .fault } }))
    ∧ (s.tm.maxRunLeft = none → exec .maxRunExpiry s = .next s)
    ∧ (∀ n, s.tm.restLeft = some n →
      s.mc.settings.pumpFitted = true → s.mc.mode ≠ .service → s.tm.level = .high ∨ s.tm.level = .full →
      exec .restExpiry s = .next { s with tm := { s.tm with
        pump := .running, restLeft := none, maxRunLeft := some 90000, serviceRun := false } })
    ∧ (∀ n, s.tm.restLeft = some n →
      s.mc.settings.pumpFitted = false ∨ s.mc.mode = .service ∨ (s.tm.level ≠ .high ∧ s.tm.level ≠ .full) →
      exec .restExpiry s = .next { s with tm := { s.tm with pump := .off, restLeft := none } })
    ∧ (s.tm.restLeft = none → exec .restExpiry s = .next s)

/-- A pump run never lasts more than 90 s, and the pump never runs while the tank is Absent: whenever the pump runs, the
maximum-run timer runs with at most 90 s left and the level is not Absent. Every step keeps it. -/
def Obligations.PumpLimitsAreKept : Prop :=
  (∀ tm : Tank, pumpInvariant tm = true → tm.pump = .running →
    tm.level ≠ .absent ∧ ∃ n, tm.maxRunLeft = some n ∧ n ≤ 90000)
  ∧ ∀ s t : State, pumpInvariant s.tm = true → step s = .next t → pumpInvariant t.tm = true

/-! ### Doses and filters (Chapters 5 and 6), and the loads of tables -/

/-- The dose computation of a unit reading: S, Qf, r, Q, the interval, the concentrations, the capture of each stage (none
into a stage 2 that is Missing), the dose lives, the pressure life, the lives, the previous stamp, the dose-gap counter and
the airflow record. -/
def Obligations.DoseComputation : Prop :=
  ∀ (mode : UnitMode) (speed : Nat) (fs : Filters) (stamp : Word) (fields : Reading) (du : Dose) (rest : Bool)
    (S Qf r Q raw dt Cf Cc C2 t1 t2 dose1 dose2 held : Nat) (pre fine : FilterClass),
    pre = fs.classes.get fs.pre.number → fine = fs.classes.get fs.fine.number →
    rest = decide (mode = .off ∨ mode = .standby) →
    S = (if rest then 0 else min 4000 speed) →
    (Qf : Int) = (if rest then 0 else if S = 4000 then (du.curve.getD 16 0 : Int)
      else (du.curve.getD (S / 250) 0 : Int)
        + (((du.curve.getD (S / 250 + 1) 0 : Int) - (du.curve.getD (S / 250) 0 : Int)) * ((S % 250 : Nat) : Int)).tdiv 250) →
    r = (if rest then 0 else match fields.pressure with
      | none => 0
      | some dp => min 800 ((dp - fine.clean) * fine.slope / 16)) →
    Q = Qf * (1000 - r) / 1000 →
    raw = (match du.previousStamp with
      | none => 0
      | some before => (stamp - before).toNat) →
    dt = min 10000 raw →
    Cf = fields.pm25.getD 0 →
    Cc = (match fields.pm25, fields.pm10 with
      | some a, some b => b - a
      | _, _ => 0) →
    C2 = Cf + Cc * (1000 - pre.efficiency) / 1000 →
    t1 = Cc * Q * dt * pre.efficiency + fs.pre.remainder →
    t2 = C2 * Q * dt * fine.efficiency + fs.fine.remainder →
    dose1 = min 4294967295 (fs.pre.dose + t1 / 3600000000) →
    dose2 = (if fs.fine.state = .missing then fs.fine.dose else min 4294967295 (fs.fine.dose + t2 / 3600000000)) →
    held = (match fields.pressure with
      | none => fs.fine.held
      | some dp => if fine.reference ≤ S ∧ fs.fine.state ≠ .missing then
          max fs.fine.held (if dp ≤ fine.clean then 0 else min 1999 ((dp - fine.clean) * 1000 / (fine.worn - fine.clean)))
        else fs.fine.held) →
    doseReading mode speed fs stamp fields du =
      { dose := { du with
          previousStamp := some stamp
          gaps := if 10000 < raw then du.gaps + 1#16 else du.gaps
          airflow := some ⟨stamp, S, Qf, r, Q, dt, decide (10000 < raw)⟩ }
        speed := S
        pre := { fs.pre with
          dose := dose1, remainder := t1 % 3600000000
          life := max (min 1999 (dose1 / pre.capacity)) fs.pre.life }
        fine := { fs.fine with
          dose := dose2, remainder := if fs.fine.state = .missing then fs.fine.remainder else t2 % 3600000000
          held := held
          life := max (max (min 1999 (dose2 / fine.capacity)) held) fs.fine.life } }

/-- The handling of a unit reading by the filter stages after the dose computation: the absent and present counts and the
setting and clearing of Missing, the stage states with their notices, and the checkpoints. A state is derived by Table 6-3; a
move into Due or Worn, and a life at or above the checkpoint life + 10, queue exactly one checkpoint of the stage, also
together; nothing else queues one. A checkpoint sets the checkpoint life and clears the unsaved flag; else a change of dose,
held life, life or state sets the flag. Each of this holds for stage 1 as for stage 2.
The order of the deliveries: a setting of Missing, its notice first, at step 1; then the notices of the moves at step 2; a
clearing of Missing behind the notice of the state reached (R109); the checkpoints last, at step 3. That the clearing stands
ahead of the checkpoints is the model's choice (log 7). -/
def Obligations.FilterStates : Prop :=
  ∀ (mode : UnitMode) (speed : Nat) (stamp : Word) (fields : Reading) (du du' : Dose) (fs fs' : Filters)
    (deliveries : List Signal) (res : DoseResult) (fine pre : FilterClass) (absent present : Prop) (derived : Nat → Nat → StageState)
    (queued : StoreTarget → List StoreItem) (trigger : StageRecord → StageRecord → Prop),
    fine = fs.classes.get fs.fine.number → pre = fs.classes.get fs.pre.number →
    res = doseReading mode speed fs stamp fields du →
    (absent ↔ ∃ dp : Nat, fields.pressure = some dp ∧ fine.reference ≤ res.speed ∧ dp < fine.absent) →
    (present ↔ ∃ dp : Nat, fields.pressure = some dp ∧ fine.reference ≤ res.speed ∧ fine.absent + 10 ≤ dp) →
    derived = (fun life due => if life < due then StageState.fresh else if life < 1000 then .due else .worn) →
    stageReading mode speed stamp fields du fs = (du', fs', deliveries) →
    queued = (fun t => deliveries.filterMap fun x => match x with
      | .checkpoint item => if item.target = t then some item else none
      | _ => none) →
    trigger = (fun before after => ((after.state = .due ∨ after.state = .worn) ∧ after.state ≠ before.state)
      ∨ before.checkpointLife + 10 ≤ after.life) →
    (fs.fine.state ≠ .missing → absent → 3 ≤ fs.fine.absentCount + 1 →
      fs'.fine.state = .missing ∧ fs'.fine.absentCount = 0 ∧ fs'.fine.presentCount = 0
      ∧ .notice .filterMissing (some 2#8) ∈ deliveries ∧ .filterMissing true ∈ deliveries
      ∧ ∃ rest, deliveries = .notice .filterMissing (some 2#8) :: .filterMissing true :: rest
        ∧ ∀ missing, .filterMissing missing ∉ rest)
    ∧ (fs.fine.state ≠ .missing → absent → fs.fine.absentCount + 1 < 3 →
      fs'.fine.state = derived res.fine.life fine.due ∧ fs'.fine.absentCount = fs.fine.absentCount + 1
      ∧ fs'.fine.presentCount = fs.fine.presentCount)
    ∧ (fs.fine.state ≠ .missing → ¬ absent →
      fs'.fine.state = derived res.fine.life fine.due ∧ fs'.fine.absentCount = 0
      ∧ fs'.fine.presentCount = fs.fine.presentCount)
    ∧ (fs.fine.state = .missing → present → 3 ≤ fs.fine.presentCount + 1 →
      fs'.fine.state = derived res.fine.life fine.due ∧ fs'.fine.absentCount = 0 ∧ fs'.fine.presentCount = 0
      ∧ .filterMissing false ∈ deliveries
      ∧ ∃ moves checkpoints, deliveries = moves ++ .filterMissing false :: checkpoints
        ∧ (∀ x ∈ moves, ∃ kind subject, x = .notice kind subject) ∧ ∀ x ∈ checkpoints, ∃ item, x = .checkpoint item)
    ∧ ((fs'.fine.state = .missing ↔ fs.fine.state = .missing) → ∃ moves checkpoints, deliveries = moves ++ checkpoints
      ∧ (∀ x ∈ moves, ∃ kind subject, x = .notice kind subject) ∧ ∀ x ∈ checkpoints, ∃ item, x = .checkpoint item)
    ∧ (fs.fine.state = .missing → present → fs.fine.presentCount + 1 < 3 →
      fs'.fine.state = .missing ∧ fs'.fine.presentCount = fs.fine.presentCount + 1
      ∧ fs'.fine.absentCount = fs.fine.absentCount)
    ∧ (fs.fine.state = .missing → ¬ present →
      fs'.fine.state = .missing ∧ fs'.fine.presentCount = 0 ∧ fs'.fine.absentCount = fs.fine.absentCount)
    ∧ (fs.pre.state ≠ .missing → fs'.pre.state = derived res.pre.life pre.due)
    ∧ (∀ kind state, (kind = NoticeKind.filterDue ∧ state = StageState.due) ∨ (kind = .filterWorn ∧ state = .worn) →
      (.notice kind (some 2#8) ∈ deliveries ↔ fs'.fine.state = state ∧ fs.fine.state ≠ state)
      ∧ (fs.pre.state ≠ .missing →
        (.notice kind (some 1#8) ∈ deliveries ↔ fs'.pre.state = state ∧ fs.pre.state ≠ state)))
    ∧ (trigger fs.fine fs'.fine →
      queued .f2 = [stageItem true fs'.fine] ∧ fs'.fine.checkpointLife = fs'.fine.life ∧ fs'.fine.unsaved = false)
    ∧ (trigger fs.pre fs'.pre →
      queued .f1 = [stageItem false fs'.pre] ∧ fs'.pre.checkpointLife = fs'.pre.life ∧ fs'.pre.unsaved = false)
    ∧ (¬ trigger fs.fine fs'.fine → queued .f2 = [] ∧ fs'.fine.checkpointLife = fs.fine.checkpointLife
      ∧ (fs'.fine.unsaved = true ↔ fs.fine.unsaved = true ∨ fs'.fine.dose ≠ fs.fine.dose ∨ fs'.fine.held ≠ fs.fine.held
        ∨ fs'.fine.life ≠ fs.fine.life ∨ fs'.fine.state ≠ fs.fine.state))
    ∧ (¬ trigger fs.pre fs'.pre → queued .f1 = [] ∧ fs'.pre.checkpointLife = fs.pre.checkpointLife
      ∧ (fs'.pre.unsaved = true ↔ fs.pre.unsaved = true ∨ fs'.pre.dose ≠ fs.pre.dose ∨ fs'.pre.held ≠ fs.pre.held
        ∨ fs'.pre.life ≠ fs.pre.life ∨ fs'.pre.state ≠ fs.pre.state))
    ∧ (∀ t, t ≠ .f1 → t ≠ .f2 → queued t = [])
    ∧ (fs'.fine.number = fs.fine.number ∧ fs'.fine.restored = fs.fine.restored ∧ fs'.fine.stamp = fs.fine.stamp
      ∧ fs'.pre.number = fs.pre.number ∧ fs'.pre.restored = fs.pre.restored ∧ fs'.pre.stamp = fs.pre.stamp)
    ∧ fs'.fine.life = res.fine.life ∧ fs'.fine.dose = res.fine.dose ∧ fs'.fine.remainder = res.fine.remainder
    ∧ fs'.fine.held = res.fine.held ∧ fs'.pre.life = res.pre.life ∧ fs'.pre.dose = res.pre.dose
    ∧ fs'.pre.remainder = res.pre.remainder ∧ fs'.pre.held = fs.pre.held
    ∧ fs'.classes = fs.classes ∧ fs'.factoryClasses = fs.factoryClasses ∧ du' = res.dose

/-- Filter Replaced, taken when it arrives: BadIndex for a stage other than 1 or 2, then for a class outside 0 to 3; else the
stage starts a new account with the class and the stamp given, its checkpoint is queued, a clearing of Missing is told to the
DMU, and the reply is Done. -/
def Obligations.FilterReplaced : Prop :=
  ∀ (tag stage number : Byte) (stamp : Word) (s : State), linkReady s.pl = true →
    (stage ≠ 1#8 → stage ≠ 2#8 →
      exec (.filterReplaced tag stage number stamp) s = .next (replyWith tag 0x11#8 .badIndex [] s))
    ∧ (stage = 1#8 ∨ stage = 2#8 → 4 ≤ number.toNat →
      exec (.filterReplaced tag stage number stamp) s = .next (replyWith tag 0x11#8 .badIndex [] s))
    ∧ (∀ (c : Fin 4) (account : StageRecord), number.toNat = c.val →
      account = { number := c, dose := 0, remainder := 0, held := 0, life := 0, state := .fresh, restored := true
                  checkpointLife := 0, stamp := stamp, unsaved := false, absentCount := 0, presentCount := 0 } →
      (stage = 1#8 →
        exec (.filterReplaced tag stage number stamp) s = .next (replyWith tag 0x11#8 .done []
          { s with fs := { s.fs with pre := account }, nvs := handItem (stageItem false account) s.nvs }))
      ∧ (stage = 2#8 → s.fs.fine.state ≠ .missing →
        exec (.filterReplaced tag stage number stamp) s = .next (replyWith tag 0x11#8 .done []
          { s with fs := { s.fs with fine := account }, nvs := handItem (stageItem true account) s.nvs }))
      ∧ (stage = 2#8 → s.fs.fine.state = .missing →
        exec (.filterReplaced tag stage number stamp) s = .next (replyWith tag 0x11#8 .done []
          (settle [.checkpoint (stageItem true account), .filterMissing false]
            { s with fs := { s.fs with fine := account } }))))

/-- Load Fan Curve, Load Filter Class and Load Ramp Profile, taken when they arrive: their checks in the order of their rules,
a refused load changing nothing but for its Reply; else the whole table named is replaced and the reply is Done. -/
def Obligations.TableLoads : Prop :=
  (∀ (tag : Byte) (points : List Half) (s : State), linkReady s.pl = true →
    (points.length ≠ 17 →
      exec (.loadFanCurve tag points) s = .next (replyWith tag 0x05#8 .badLength [] s))
    ∧ (points.length = 17 → (∃ p ∈ points, 1500 < p.toNat) →
      exec (.loadFanCurve tag points) s = .next (replyWith tag 0x05#8 .badTable [] s))
    ∧ (points.length = 17 → (∀ p ∈ points, p.toNat ≤ 1500) →
      exec (.loadFanCurve tag points) s = .next (replyWith tag 0x05#8 .done []
        { s with du := { s.du with curve := points.map BitVec.toNat } })))
  ∧ (∀ (tag number : Byte) (f : ClassFields) (s : State) (new : FilterClass) (inRange : Prop), linkReady s.pl = true →
    new = ⟨f.capacity.toNat, f.efficiency.toNat, f.clean.toNat, f.worn.toNat, f.absent.toNat, f.slope.toNat,
      f.reference.toNat, f.due.toNat⟩ →
    (inRange ↔ 1 ≤ new.capacity ∧ 1 ≤ new.efficiency ∧ new.efficiency ≤ 1000 ∧ new.clean ≤ 600 ∧ new.clean + 20 ≤ new.worn
      ∧ new.worn ≤ 1000 ∧ new.absent ≤ new.clean ∧ new.reference ≤ 4000 ∧ 500 ≤ new.due ∧ new.due ≤ 999) →
    (4 ≤ number.toNat →
      exec (.loadFilterClass tag number f) s = .next (replyWith tag 0x07#8 .badIndex [] s))
    ∧ (∀ i : Fin 4, number.toNat = i.val →
      (¬ inRange → exec (.loadFilterClass tag number f) s = .next (replyWith tag 0x07#8 .badTable [] s))
      ∧ (inRange → s.fs.pre.number = i ∨ s.fs.fine.number = i →
        exec (.loadFilterClass tag number f) s = .next (replyWith tag 0x07#8 .busy [] s))
      ∧ (inRange → s.fs.pre.number ≠ i → s.fs.fine.number ≠ i →
        exec (.loadFilterClass tag number f) s = .next (replyWith tag 0x07#8 .done []
          { s with fs := { s.fs with classes := s.fs.classes.set i new } }))))
  ∧ (∀ (tag profile count : Byte) (bands : List (Half × Byte × Byte)) (s : State) (new : List Band) (inRange : Prop),
    linkReady s.pl = true →
    new = bands.map (fun b => ⟨b.1.toNat, b.2.1.toNat, b.2.2.toNat⟩) →
    (inRange ↔ 1 ≤ new.length ∧ new.length ≤ 8
      ∧ (∀ b ∈ new, 1 ≤ b.ceiling ∧ b.ceiling ≤ 1000 ∧ 1 ≤ b.rise ∧ b.rise ≤ 200 ∧ 1 ≤ b.fall ∧ b.fall ≤ 200)
      ∧ (new.map Band.ceiling).Pairwise (· < ·) ∧ (new.map Band.ceiling).getLast? = some 1000) →
    (4 ≤ profile.toNat →
      exec (.loadRampProfile tag profile count bands) s = .next (replyWith tag 0x06#8 .badIndex [] s))
    ∧ (∀ i : Fin 4, profile.toNat = i.val →
      (bands.length ≠ count.toNat →
        exec (.loadRampProfile tag profile count bands) s = .next (replyWith tag 0x06#8 .badLength [] s))
      ∧ (bands.length = count.toNat → ¬ inRange →
        exec (.loadRampProfile tag profile count bands) s = .next (replyWith tag 0x06#8 .badTable [] s))
      ∧ (bands.length = count.toNat → inRange →
        exec (.loadRampProfile tag profile count bands) s = .next (replyWith tag 0x06#8 .done []
          { s with bd := { s.bd with profiles := s.bd.profiles.set i new } }))))

/-- Load Poll List, taken when it arrives: BadLength when the entries carried are not as many as the count gives, BadTable in
the five cases of R3; else the poll list is the entries in the order given, an address still named keeps its record under
the form now given, a new one gets a fresh record, one no longer named loses its record, a cycle in progress is abandoned and
a new one starts where cycles run, and the DMU and the unit's consumers are told of removals and creations.
The cycle (R3, R5): abandoned with no cycle end, so no snapshot is taken and the cycle number stays. The new cycle starts at
once; over an empty list it also ends at once, with the cycle end of R7, and leaves the line to a waiting Node Message. In
Service with source Inject no cycle starts, the next start time stays as it is, and a waiting Node Message begins. A Node
Message in transmission, and the 5 ms wait after one, are no cycle and go on, the new cycle being owed at their end: the
model's reading (log 18). What begins at once begins inside the command (log 6). -/
def Obligations.LoadPollList : Prop :=
  ∀ (tag count : Byte) (entries : List (Byte × Byte)) (s : State) (new : List PollEntry) (formsGood bad : Prop)
    (iu : Intake) (deliveries : List Signal), linkReady s.pl = true →
    (formsGood ↔ entries.map (fun e => e.2.toNat) = new.map (fun e => (formCode e.form).toNat)) →
    entries.map (fun e => e.1.toNat) = new.map PollEntry.address →
    (bad ↔ 16 < new.length ∨ (∃ e ∈ new, e.address = 0 ∨ 30 < e.address) ∨ 12 < (namedAddresses new).length
      ∨ ∃ e ∈ new, ∃ x ∈ new, x.address = e.address ∧ x.form ≠ e.form) →
    (iu, deliveries) = loadPollList (intervalNow s) s.mc.settings.nodeAddress new s.iu →
    (entries.length ≠ count.toNat →
      exec (.loadPollList tag count entries) s = .next (replyWith tag 0x04#8 .badLength [] s))
    ∧ (entries.length = count.toNat → (∃ e ∈ entries, 2 < e.2.toNat) →
      exec (.loadPollList tag count entries) s = .next (replyWith tag 0x04#8 .badTable [] s))
    ∧ (entries.length = count.toNat → formsGood → bad →
      exec (.loadPollList tag count entries) s = .next (replyWith tag 0x04#8 .badTable [] s))
    ∧ (entries.length = count.toNat → formsGood → ¬ bad →
      exec (.loadPollList tag count entries) s =
        .next (replyWith tag 0x04#8 .done [] (settle deliveries { s with iu := iu })))
    ∧ (iu.pollList = new
      ∧ (∀ e ∈ new, ¬ bad → findNode e.address iu.nodes = some (match findNode e.address s.iu.nodes with
          | some r => { r with form := e.form }
          | none => NodeRecord.fresh e.address e.form))
      ∧ (∀ a, (∀ e ∈ new, e.address ≠ a) → findNode a iu.nodes = none)
      ∧ iu.live = s.iu.live ∧ iu.polarity = s.iu.polarity ∧ iu.badWindows = s.iu.badWindows
      ∧ iu.timeBase = s.iu.timeBase ∧ iu.down = s.iu.down)
    ∧ ((∀ left, s.iu.phase ≠ .message left) → (∀ left, s.iu.phase ≠ .messageWait left) →
      (∀ ms e rest, intervalNow s = some ms → new = e :: rest →
        iu.phase = .poll 0 (zoneLineTime 4) ∧ iu.sending = pollFrame e.address
        ∧ iu.onWire = [corrected s.iu.polarity 0x70#8] ∧ iu.lastStart = some s.iu.timeBase
        ∧ iu.nextStart = some (s.iu.timeBase + BitVec.ofNat 32 ms)))
    ∧ (∀ (held halted : Intake) (started : Nat → Intake) (messageSent : NodeMessage → Intake → Intake),
      held = { s.iu with pollList := new, nodes := iu.nodes } →
      halted = { held with phase := .idle, sending := [], onWire := [], startDue := false } →
      started = (fun ms => { halted with
        lastStart := some s.iu.timeBase, nextStart := some (s.iu.timeBase + BitVec.ofNat 32 ms) }) →
      messageSent = (fun m u => { u with
        phase := .message (zoneLineTime (messageFrame m.address m.data).length)
        sending := messageFrame m.address m.data, onWire := [corrected s.iu.polarity 0x74#8] }) →
      ((∃ left, s.iu.phase = .message left ∨ s.iu.phase = .messageWait left) →
        iu = { held with startDue := (intervalNow s).isSome })
      ∧ ((∀ left, s.iu.phase ≠ .message left) → (∀ left, s.iu.phase ≠ .messageWait left) →
        (∀ ms e rest, intervalNow s = some ms → new = e :: rest →
          iu = { started ms with
            phase := .poll 0 (zoneLineTime 4), sending := pollFrame e.address
            onWire := [corrected s.iu.polarity 0x70#8] })
        ∧ (∀ (ms : Nat) (ended : Intake), intervalNow s = some ms → new = [] →
          ended = { started ms with snapshot := s.iu.live, cycleNumber := s.iu.cycleNumber + 1#16 } →
          (s.iu.down = [] → iu = ended) ∧ ∀ m rest, s.iu.down = m :: rest → iu = messageSent m ended)
        ∧ (intervalNow s = none →
          (s.iu.down = [] → iu = halted) ∧ ∀ m rest, s.iu.down = m :: rest → iu = messageSent m halted)))
    ∧ (∀ a, .nodeState a .lost ∈ deliveries ↔ (∃ r ∈ s.iu.nodes, r.address = a) ∧ ∀ e ∈ new, e.address ≠ a)
    ∧ (∀ a, .nodeState a .unknown ∈ deliveries ↔ (∃ e ∈ new, e.address = a) ∧ findNode a s.iu.nodes = none)
    ∧ (.unitState .lost ∈ deliveries ↔ (∃ r ∈ s.iu.nodes, r.address = s.mc.settings.nodeAddress)
      ∧ ∀ e ∈ new, e.address ≠ s.mc.settings.nodeAddress)
    ∧ (.unitState .unknown ∈ deliveries ↔ (∃ e ∈ new, e.address = s.mc.settings.nodeAddress)
      ∧ findNode s.mc.settings.nodeAddress s.iu.nodes = none)

/-! ### Modes, settings and Service (Chapter 9) -/

/-- Set Mode, taken when it arrives: BadLength when the payload does not fit the mode it names, BadTable for a mode or source
that is none; else a mode other than the one held is delivered to every block with the source given (Line outside Service), the
service record cleared into and out of Service; another source within Service is delivered to the IU; Off while in Off is
delivered to the BD alone; and anything else changes nothing. The reply is Done, and no ModeChanged notice is posted by it.
BadLength for an unknown mode that carries a source octet, and BadTable for one without, is the model's reading of step 1 of
R150 (log 32). -/
def Obligations.SetMode : Prop :=
  ∀ (tag mode : Byte) (source : Option Byte) (s : State), linkReady s.pl = true →
    ((mode ≠ 4#8 ∧ source ≠ none) ∨ (mode = 4#8 ∧ source = none) →
      exec (.setMode tag mode source) s = .next (replyWith tag 0x01#8 .badLength [] s))
    ∧ (4 < mode.toNat → source = none →
      exec (.setMode tag mode source) s = .next (replyWith tag 0x01#8 .badTable [] s))
    ∧ (∀ b : Byte, mode = 4#8 → source = some b → 1 < b.toNat →
      exec (.setMode tag mode source) s = .next (replyWith tag 0x01#8 .badTable [] s))
    ∧ (∀ (new : UnitMode) (src : ServiceSource) (off : List Signal) (record : ServiceRecord), mode = modeCode new →
      (new = .service ∧ source = some (sourceCode src)) ∨ (new ≠ .service ∧ source = none ∧ src = .line) →
      off = (if new = .off then [.setModeOff] else []) →
      record = (if new = .service ∨ s.mc.mode = .service then ⟨none, none, none⟩ else s.mc.record) →
      (new ≠ s.mc.mode →
        exec (.setMode tag mode source) s = .next (replyWith tag 0x01#8 .done []
          (settle (.modeChange s.mc.mode new s.mc.source :: off)
            { s with mc := { s.mc with mode := new, source := src, record := record } })))
      ∧ (new = s.mc.mode → new = .service → src ≠ s.mc.source →
        exec (.setMode tag mode source) s = .next (replyWith tag 0x01#8 .done []
          (settle [.sourceChange s.mc.source src] { s with mc := { s.mc with source := src } })))
      ∧ (new = s.mc.mode → new ≠ .off → new ≠ .service ∨ src = s.mc.source →
        exec (.setMode tag mode source) s = .next (replyWith tag 0x01#8 .done [] s))
      ∧ (new = s.mc.mode → new = .off → s.bd.state ≠ .fault →
        exec (.setMode tag mode source) s = .next (replyWith tag 0x01#8 .done []
          { s with bd := { s.bd with retryCount := 0 } }))
      ∧ (new = s.mc.mode → new = .off → s.bd.state = .fault →
        exec (.setMode tag mode source) s = .next (replyWith tag 0x01#8 .done [] (settle [.setModeOff] s))
        ∧ route .setModeOff s =
          ({ s with bd := { s.bd with state := .stopped, retryCount := 0 } }, [.blowerFaulted false])))

/-- What a mode change does at the blocks beside the dampers and the sequencer: the staged demand is 0 on entry to Service; a
Retry-Wait ends in Stopped outside Run and Quiet; on entry to Service a pump run ends with Mode and a rest is cut short; on
leaving it a service run ends with Service and an ordinary run starts where its condition holds; a change into Off or Standby
queues the run-hour checkpoint (R64) and those of the stages with the unsaved flag; the dampers and the sequencer take it by their
own rules; and a demand update follows. A delivery of D wakes the unit from Standby into Run, with ModeChanged, exactly when
auto-wake is yes and D is at or above the threshold. A demanded duty is staged outside Service and discarded in Service (R46).
The next cycle at a mode change, or a source change within Service (R6): into Service with source Inject the next start is
cancelled; out of it a cycle is owed as soon as the line is free; between two modes that poll the next start is the last one
plus the new interval, owed at once where that has passed; that the exact instant of it counts as passed is the model's reading
(log 19). That this also re-times a cycle that was owed and had not begun is
the model's choice (log 36). -/
def Obligations.ModeChanges : Prop :=
  (∀ (old new : UnitMode) (oldSource : ServiceSource) (s t : State) (deliveries : List Signal) (off : Tank) (starts : Prop),
    route (.modeChange old new oldSource) s = (t, deliveries) →
    off = { s.tm with pump := .off, maxRunLeft := none, serviceRun := false } →
    (starts ↔ s.mc.settings.pumpFitted = true ∧ (s.tm.level = .high ∨ s.tm.level = .full)) →
    t.bd.staged = (if new = .service then 0 else s.bd.staged) ∧ t.bd.applied = s.bd.applied
    ∧ (s.bd.state = .retryWait → new = .off ∨ new = .standby ∨ new = .service →
      t.bd.state = .stopped ∧ t.bd.retryLeft = none ∧ t.bd.finish = if new = .service then .service else .mode)
    ∧ (s.bd.state ≠ .retryWait ∨ new = .run ∨ new = .quiet → t.bd.state = s.bd.state ∧ t.bd.finish = s.bd.finish)
    ∧ (new = .service → s.tm.pump = .running → t.tm = { off with finish := .mode })
    ∧ (new = .service → s.tm.pump = .rest → t.tm = { s.tm with pump := .off, restLeft := none })
    ∧ (new = .service → s.tm.pump = .off ∨ s.tm.pump = .fault → t.tm = s.tm)
    ∧ (old = .service → new ≠ .service → s.tm.pump = .running → ¬ starts → t.tm = { off with finish := .service })
    ∧ (old = .service → new ≠ .service → s.tm.pump = .running → starts →
      t.tm = { off with finish := .service, pump := .running, maxRunLeft := some 90000, serviceRun := false })
    ∧ (old = .service → new ≠ .service → s.tm.pump = .off → starts →
      t.tm = { s.tm with pump := .running, maxRunLeft := some 90000, serviceRun := false })
    ∧ (old = .service → new ≠ .service → s.tm.pump = .fault ∨ s.tm.pump = .rest ∨ (s.tm.pump = .off ∧ ¬ starts) →
      t.tm = s.tm)
    ∧ (old ≠ .service → new ≠ .service → t.tm = s.tm)
    ∧ (new = .off ∨ new = .standby →
      .checkpoint (runHourItem s.bd.runSeconds) ∈ deliveries
      ∧ (s.fs.pre.unsaved = true → .checkpoint (stageItem false s.fs.pre) ∈ deliveries ∧ t.fs.pre.unsaved = false
        ∧ t.fs.pre.checkpointLife = s.fs.pre.life)
      ∧ (s.fs.fine.unsaved = true → .checkpoint (stageItem true s.fs.fine) ∈ deliveries ∧ t.fs.fine.unsaved = false
        ∧ t.fs.fine.checkpointLife = s.fs.fine.life)
      ∧ (s.fs.pre.unsaved = false → t.fs.pre = s.fs.pre) ∧ (s.fs.fine.unsaved = false → t.fs.fine = s.fs.fine))
    ∧ (new ≠ .off → new ≠ .standby → t.fs = s.fs ∧ ∀ x, .checkpoint x ∉ deliveries)
    ∧ .demandUpdate ∈ deliveries
    ∧ (∀ i, t.dp.dampers.get i = damperMode old new (s.dp.dampers.get i))
    ∧ (∀ r, r = dsDeliver s.mc.settings.coilMinimum .mode { s.ds with mode := new } →
      t.ds = r.1 ∧ ∀ x ∈ r.2, x ∈ deliveries)
    ∧ t.iu = retime (intervalNow { s with mc := { s.mc with mode := old, source := oldSource } })
      (intervalNow { s with mc := { s.mc with mode := new } }) s.iu
    ∧ t.mc = s.mc ∧ t.dmu = s.dmu ∧ t.du = s.du ∧ t.nvs = s.nvs ∧ t.pl = s.pl)
  ∧ (∀ (iu : Intake) (before ms : Nat) (last : Word) (old : Option Nat),
    (retime old none iu = useFreeLine none { iu with nextStart := none, startDue := false })
    ∧ (retime none (some ms) iu = useFreeLine (some ms) { iu with startDue := true })
    ∧ (iu.lastStart = some last →
      retime (some before) (some ms) iu = useFreeLine (some ms) { iu with
        nextStart := some (last + BitVec.ofNat 32 ms), startDue := decide (ms ≤ (iu.timeBase - last).toNat) }))
  ∧ (∀ (s : State) (old new : ServiceSource) (under : ServiceSource → State),
    under = (fun source => { s with mc := { s.mc with mode := .service, source := source } }) →
    route (.sourceChange old new) s =
      ({ s with iu := retime (intervalNow (under old)) (intervalNow (under new)) s.iu }, []))
  ∧ (∀ (s : State) (duty : Nat), route (.demandedDuty duty) s =
    ({ s with bd := if s.mc.mode = .service then s.bd else { s.bd with staged := duty } }, []))
  ∧ (∀ (s : State) (d : Nat),
    (s.mc.mode = .standby → s.mc.settings.autoWake = true → s.mc.settings.wakeThreshold ≤ d →
      route (.largestDemand d) s = ({ s with mc := { s.mc with largest := d, mode := .run } },
        [.modeChange .standby .run s.mc.source, .notice .modeChanged none]))
    ∧ (s.mc.mode ≠ .standby ∨ s.mc.settings.autoWake = false ∨ d < s.mc.settings.wakeThreshold →
      route (.largestDemand d) s = ({ s with mc := { s.mc with largest := d } }, [])))

/-- Load Unit Settings, taken when it arrives: BadTable for any field outside Table 9-2, then Busy while the applied duty is
above 0; else the record is replaced whole, the blocks that read it act on what changed, a demand update follows, and the reply
is Done. At the blocks: a changed polarity setting sets the polarity (R16); a changed node address is reported (R4); changed
edges reset the capture chain (R55); a changed pump fitted ends or starts the pump (R140); a changed hold time re-times every
Held zone, to Stale where it has passed (R33); a changed coil minimum is checked against the duty held while the compressor is
on (R125). The octets of a Poll or Node Message that have begun stay as they left the pin, and the rest leave it in the new
polarity (R16). -/
def Obligations.LoadUnitSettings : Prop :=
  (∀ (tag : Byte) (f : SettingsFields) (s : State) (inRange : Prop) (new : Settings), linkReady s.pl = true →
    new =
      { nodeAddress := f.nodeAddress.toNat
        relayEnable := decide (f.relayEnable = 1#8)
        polarity := if f.polarity = 0#8 then .auto else if f.polarity = 1#8 then .normal else .inverted
        runProfile := Fin.ofNat 4 f.runProfile.toNat
        quietProfile := Fin.ofNat 4 f.quietProfile.toNat
        runCap := f.runCap.toNat
        quietCap := f.quietCap.toNat
        idleDuty := f.idleDuty.toNat
        coilMinimum := f.coilMinimum.toNat
        fixedShare := f.fixedShare.toNat
        holdTime := f.holdTime.toNat
        callOn := f.callOn.toInt
        callOff := f.callOff.toInt
        wakeThreshold := f.wakeThreshold.toNat
        autoWake := decide (f.autoWake = 1#8)
        pumpFitted := decide (f.pumpFitted = 1#8)
        edges := f.edges.toNat
        pulses := f.pulses.toNat } →
    (inRange ↔ f.relayEnable.toNat ≤ 1 ∧ f.polarity.toNat ≤ 2 ∧ f.runProfile.toNat ≤ 3 ∧ f.quietProfile.toNat ≤ 3
      ∧ f.autoWake.toNat ≤ 1 ∧ f.pumpFitted.toNat ≤ 1 ∧ settingsInRange new = true) →
    (¬ inRange → exec (.loadUnitSettings tag f) s = .next (replyWith tag 0x09#8 .badTable [] s))
    ∧ (inRange → 0 < s.bd.applied →
      exec (.loadUnitSettings tag f) s = .next (replyWith tag 0x09#8 .busy [] s))
    ∧ (inRange → s.bd.applied = 0 →
      exec (.loadUnitSettings tag f) s = .next (replyWith tag 0x09#8 .done []
        (settle [.settingsLoaded s.mc.settings] { s with mc := { s.mc with settings := new } }))))
  ∧ (∀ (before new : Settings) (s t : State) (deliveries : List Signal) (off : Tank) (starts : Prop),
    new = s.mc.settings → route (.settingsLoaded before) s = (t, deliveries) →
    off = { s.tm with pump := .off, timeouts := 0 } →
    (starts ↔ s.mc.mode ≠ .service ∧ (s.tm.level = .high ∨ s.tm.level = .full)) →
    (new.polarity = before.polarity → t.iu = s.iu)
    ∧ (new.polarity ≠ before.polarity → t.iu = { s.iu with badWindows := 0, polarity :=
        if new.polarity = .normal then .normal else if new.polarity = .inverted then .inverted else s.iu.polarity })
    ∧ lineOctets t.iu =
      s.iu.onWire ++ (s.iu.sending.drop s.iu.onWire.length).map (corrected t.iu.polarity)
    ∧ (new.holdTime = before.holdTime → t.dmu = s.dmu)
    ∧ (new.holdTime ≠ before.holdTime → t.dmu = { s.dmu with zones := t.dmu.zones } ∧ ∀ (i : Fin 6) (z : Zone) (hold : Nat),
      z = s.dmu.zones.get i → hold = new.holdTime * 1000 →
      (z.sample ≠ .held → t.dmu.zones.get i = z)
      ∧ (∀ last, z.sample = .held → z.lastAccept = some last → (s.iu.timeBase - last).toNat < hold →
        t.dmu.zones.get i = { z with holdExpiry := some (last + BitVec.ofNat 32 hold) })
      ∧ (∀ last, z.sample = .held → z.lastAccept = some last → hold ≤ (s.iu.timeBase - last).toNat →
        t.dmu.zones.get i = { z with sample := .stale, holdExpiry := none })
      ∧ (z.sample = .held → z.lastAccept = none →
        t.dmu.zones.get i = { z with sample := .stale, holdExpiry := none }))
    ∧ (new.coilMinimum = before.coilMinimum ∨ s.ds.compressor = false → t.ds = s.ds)
    ∧ (new.coilMinimum ≠ before.coilMinimum → s.ds.compressor = true →
      t.ds = { s.ds with
        graceLeft := if s.ds.applied < new.coilMinimum then some (s.ds.graceLeft.getD 10000) else none })
    ∧ (new.nodeAddress = before.nodeAddress → ∀ x, .unitState x ∉ deliveries)
    ∧ (new.nodeAddress ≠ before.nodeAddress → .unitState .lost ∈ deliveries
      ∧ (∀ r, findNode new.nodeAddress s.iu.nodes = some r → .unitState r.state ∈ deliveries))
    ∧ (new.edges = before.edges → t.bd = s.bd)
    ∧ (new.edges ≠ before.edges →
      t.bd = { s.bd with chain := { s.bd.chain with reference := false, edges := 0 } })
    ∧ (new.pumpFitted = before.pumpFitted → t.tm = s.tm)
    ∧ (before.pumpFitted = true → new.pumpFitted = false → s.tm.pump = .running →
      t.tm = { off with maxRunLeft := none, serviceRun := false, finish := .mode })
    ∧ (before.pumpFitted = true → new.pumpFitted = false → s.tm.pump ≠ .running → t.tm = { off with restLeft := none })
    ∧ (before.pumpFitted = false → new.pumpFitted = true → s.tm.pump = .off → starts →
      t.tm = { s.tm with timeouts := 0, pump := .running, maxRunLeft := some 90000, serviceRun := false })
    ∧ (before.pumpFitted = false → new.pumpFitted = true → s.tm.pump = .off → ¬ starts →
      t.tm = { s.tm with timeouts := 0 })
    ∧ .demandUpdate ∈ deliveries ∧ t.mc = s.mc ∧ t.dp = s.dp ∧ t.du = s.du ∧ t.fs = s.fs ∧ t.nvs = s.nvs ∧ t.pl = s.pl)

/-- The six Service Drives of a single part, taken when they arrive: BadMode outside Service; else the checks of R153 in their
order (a damper number, a value out of range, the pump's and the compressor's own refusals), a refused drive changing nothing but
for its Reply; else the part is applied, the service record takes it, and the reply is Done. That the six rows are drives of
a single part is log 22; that a target starts the homing of an Unhomed damper whatever target it holds, an equal one too, is
the model's reading (log 17). A switch already asserted ends that homing before its first step. -/
def Obligations.ServiceDrives : Prop :=
  ∀ (tag : Byte) (s : State), linkReady s.pl = true →
    (∀ demand : Half,
      (s.mc.mode ≠ .service →
        exec (.serviceBlowerDemand tag demand) s = .next (replyWith tag 0x17#8 .badMode [] s))
      ∧ (s.mc.mode = .service → 1000 < demand.toNat →
        exec (.serviceBlowerDemand tag demand) s = .next (replyWith tag 0x17#8 .badTable [] s))
      ∧ (s.mc.mode = .service → demand.toNat ≤ 1000 →
        exec (.serviceBlowerDemand tag demand) s = .next (replyWith tag 0x17#8 .done [] { s with
          bd := { s.bd with staged := demand.toNat }
          mc := { s.mc with record := { s.mc.record with blower := some demand.toNat } } })))
    ∧ (∀ targets : List (Byte × Half), targets.length ≤ 255 →
      (s.mc.mode ≠ .service →
        exec (.serviceDamperTargets tag targets) s = .next (replyWith tag 0x17#8 .badMode [] s))
      ∧ (s.mc.mode = .service → (∃ t ∈ targets, 6 ≤ t.1.toNat) →
        exec (.serviceDamperTargets tag targets) s = .next (replyWith tag 0x17#8 .badIndex [] s))
      ∧ (s.mc.mode = .service → (∀ t ∈ targets, t.1.toNat < 6) →
        (∃ t ∈ targets, 2000 < t.2.toNat) ∨ ¬ (targets.map Prod.fst).Nodup →
        exec (.serviceDamperTargets tag targets) s = .next (replyWith tag 0x17#8 .badTable [] s))
      ∧ (s.mc.mode = .service → (∀ t ∈ targets, t.1.toNat < 6) → (∀ t ∈ targets, t.2.toNat ≤ 2000) →
        (targets.map Prod.fst).Nodup →
        ∃ dampers : Six Damper,
          exec (.serviceDamperTargets tag targets) s = .next (replyWith tag 0x17#8 .done [] { s with dp := ⟨dampers⟩ })
          ∧ (∀ i t, t ∈ targets → t.1.toNat = i.val →
            dampers.get i = takeTarget true t.2.toNat (s.dp.dampers.get i))
          ∧ (∀ i : Fin 6, (∀ t ∈ targets, t.1.toNat ≠ i.val) → dampers.get i = s.dp.dampers.get i)))
    ∧ (∀ (d : Damper) (target : Nat),
      (d.state ≠ .unhomed → takeTarget true target d = takeTarget false target d)
      ∧ (d.state = .unhomed → d.homeSwitch = false →
        takeTarget true target d = { d with
          state := .homing, target := some (min target d.entry.travel), share := 0, homingCount := 0, towardOpen := false
          stepLeft := some 10 })
      ∧ (d.state = .unhomed → d.homeSwitch = true → min target d.entry.travel = 0 →
        takeTarget true target d = { d with
          state := .settled, target := some 0, position := some 0, share := 0, homingCount := 0, finish := .arrived
          seeking := false, towardOpen := false, stepLeft := none })
      ∧ (d.state = .unhomed → d.homeSwitch = true → 0 < min target d.entry.travel →
        takeTarget true target d = { d with
          state := .moving, target := some (min target d.entry.travel), position := some 0, share := 0, homingCount := 0
          finish := .arrived, seeking := false, towardOpen := true, stepLeft := some 5 }))
    ∧ ((s.mc.mode ≠ .service →
        exec (.servicePumpOn tag) s = .next (replyWith tag 0x17#8 .badMode [] s)
        ∧ exec (.servicePumpOff tag) s = .next (replyWith tag 0x17#8 .badMode [] s)
        ∧ exec (.serviceCompressorOn tag) s = .next (replyWith tag 0x17#8 .badMode [] s)
        ∧ exec (.serviceCompressorOff tag) s = .next (replyWith tag 0x17#8 .badMode [] s)))
    ∧ (∀ on : ModeControl, on = { s.mc with record := { s.mc.record with pump := some true } } → s.mc.mode = .service →
      (s.tm.level = .absent ∨ s.tm.level = .unsettled →
        exec (.servicePumpOn tag) s = .next (replyWith tag 0x17#8 .badMode [] s))
      ∧ (s.tm.level ≠ .absent → s.tm.level ≠ .unsettled → s.mc.settings.pumpFitted = false ∨ s.tm.pump = .fault →
        exec (.servicePumpOn tag) s = .next (replyWith tag 0x17#8 .busy [] s))
      ∧ (s.tm.level ≠ .absent → s.tm.level ≠ .unsettled → s.mc.settings.pumpFitted = true → s.tm.pump = .off →
        exec (.servicePumpOn tag) s = .next (replyWith tag 0x17#8 .done [] { s with
          tm := { s.tm with pump := .running, maxRunLeft := some 90000, serviceRun := true }, mc := on }))
      ∧ (s.tm.level ≠ .absent → s.tm.level ≠ .unsettled → s.mc.settings.pumpFitted = true → s.tm.pump = .running →
        exec (.servicePumpOn tag) s = .next (replyWith tag 0x17#8 .done [] { s with mc := on })))
    ∧ (∀ off : ModeControl, off = { s.mc with record := { s.mc.record with pump := some false } } → s.mc.mode = .service →
      (s.tm.pump = .running → s.tm.serviceRun = true →
        exec (.servicePumpOff tag) s = .next (replyWith tag 0x17#8 .done [] { s with
          tm := { s.tm with pump := .off, maxRunLeft := none, serviceRun := false, finish := .service }, mc := off }))
      ∧ (s.tm.pump ≠ .running ∨ s.tm.serviceRun = false →
        exec (.servicePumpOff tag) s = .next (replyWith tag 0x17#8 .done [] { s with mc := off })))
    ∧ (∀ (on : ModeControl) (refused : Prop), on = { s.mc with record := { s.mc.record with compressor := some true } } →
      (refused ↔ s.ds.tankBlocked = true ∨ (∃ n, s.ds.offLeft = some n) ∨ s.ds.applied < s.mc.settings.coilMinimum
        ∨ s.ds.state = .lockout) →
      s.mc.mode = .service →
      (s.ds.service = false → refused →
        exec (.serviceCompressorOn tag) s = .next (replyWith tag 0x17#8 .busy [] s))
      ∧ (s.ds.service = false → ¬ refused →
        exec (.serviceCompressorOn tag) s = .next (replyWith tag 0x17#8 .done [] { s with
          ds := { s.ds with service := true, compressor := true }, mc := on }))
      ∧ (s.ds.service = true →
        exec (.serviceCompressorOn tag) s = .next (replyWith tag 0x17#8 .done [] { s with mc := on })))
    ∧ (∀ off : ModeControl, off = { s.mc with record := { s.mc.record with compressor := some false } } →
      s.mc.mode = .service →
      (s.ds.service = true →
        exec (.serviceCompressorOff tag) s = .next (replyWith tag 0x17#8 .done [] { s with
          ds := { s.ds with
            service := false, compressor := false, offLeft := some 180000, onLeft := none, graceLeft := none
            frostLeft := none, finish := .service }
          mc := off }))
      ∧ (s.ds.service = false →
        exec (.serviceCompressorOff tag) s = .next (replyWith tag 0x17#8 .done [] { s with mc := off })))

/-! ### The store (Chapter 10) -/

/-- Store Read and Store Write, taken when they arrive. A read is refused BadLength for a count of 0 or above 32, then BadAddress
for a range not wholly within the store; else it returns the octets of the store and changes nothing. A write is refused
BadAddress for an address below 512, above 1020 or not a multiple of 4, then Full while a panel item for another address waits;
else its item is handed to the write queue.
The write queue and the writes. An item handed over while a write is in progress takes the place of a waiting item for its
target, or joins the back; handed over with no write in progress and nothing waiting it begins at once, every word it covers
erased. The end of a word writes it, the highest of those left; after the first word the write ends, and the item at the front
begins in the same way. Every other octet of the store stays as it was. Without a write in progress the command has no effect
(log 2). -/
def Obligations.StoreRequestsAndWrites : Prop :=
  (∀ (tag : Byte) (address : Half) (s : State), linkReady s.pl = true →
     (∀ count : Byte,
       (count.toNat = 0 ∨ 32 < count.toNat →
         exec (.storeRead tag address count) s = .next (replyWith tag 0x19#8 .badLength [] s))
       ∧ (1 ≤ count.toNat → count.toNat ≤ 32 → 1024 < address.toNat + count.toNat →
         exec (.storeRead tag address count) s = .next (replyWith tag 0x19#8 .badAddress [] s))
       ∧ (1 ≤ count.toNat → count.toNat ≤ 32 → address.toNat + count.toNat ≤ 1024 →
         ∃ octets : List Byte, octets.length = count.toNat
           ∧ (∀ k < count.toNat, octets[k]? = some (Memory.read s.nvs.cells (address.toNat + k)))
           ∧ exec (.storeRead tag address count) s = .next (replyWith tag 0x19#8 .done octets s)))
     ∧ (∀ (data : Word) (waits : Prop),
       (waits ↔ ∃ x ∈ s.nvs.queue, ∃ b, x.target = .panel b ∧ b ≠ address.toNat) →
       (address.toNat < 512 ∨ 1020 < address.toNat ∨ address.toNat % 4 ≠ 0 →
         exec (.storeWrite tag address data) s = .next (replyWith tag 0x1A#8 .badAddress [] s))
       ∧ (512 ≤ address.toNat → address.toNat ≤ 1020 → address.toNat % 4 = 0 → waits →
         exec (.storeWrite tag address data) s = .next (replyWith tag 0x1A#8 .full [] s))
       ∧ (512 ≤ address.toNat → address.toNat ≤ 1020 → address.toNat % 4 = 0 → ¬ waits →
         exec (.storeWrite tag address data) s = .next (replyWith tag 0x1A#8 .done []
           { s with nvs := handItem ⟨.panel address.toNat, octets32 data⟩ s.nvs }))))
  ∧ ((∀ (item : StoreItem) (nvs : Store) (w : StoreWriting), nvs.current = some w →
       (∀ before x after, nvs.queue = before ++ x :: after → x.target = item.target →
         (∀ y ∈ before, y.target ≠ item.target) →
         handItem item nvs = { nvs with queue := before ++ item :: after })
       ∧ ((∀ y ∈ nvs.queue, y.target ≠ item.target) → handItem item nvs = { nvs with queue := nvs.queue ++ [item] }))
     ∧ (∀ (item : StoreItem) (nvs : Store), Memory.wf nvs.cells = true → nvs.current = none → nvs.queue = [] →
       ∃ cells,
         handItem item nvs = ⟨cells, [], some ⟨item, item.octets.length / 4, 4⟩⟩
         ∧ ∀ a, Memory.read cells a =
           if targetAddress item.target ≤ a ∧ a < targetAddress item.target + item.octets.length then 0xFF#8
           else Memory.read nvs.cells a)
     ∧ (∀ s : State, s.nvs.current = none → exec .nvsWordDone s = .next s)
     ∧ (∀ (s : State) (w : StoreWriting) (k base : Nat), Memory.wf s.nvs.cells = true → s.nvs.current = some w → w.wordsLeft = k + 1 →
       base = targetAddress w.item.target + 4 * k → 4 * k + 4 ≤ w.item.octets.length →
       ∃ cells,
         (∀ a, Memory.read cells a =
           if base ≤ a ∧ a < base + 4 then w.item.octets.getD (4 * k + (a - base)) 0xFF#8 else Memory.read s.nvs.cells a)
         ∧ (0 < k → exec .nvsWordDone s = .next { s with nvs := ⟨cells, s.nvs.queue, some ⟨w.item, k, 4⟩⟩ })
         ∧ (k = 0 → s.nvs.queue = [] → exec .nvsWordDone s = .next { s with nvs := ⟨cells, [], none⟩ })
         ∧ (∀ item rest, k = 0 → s.nvs.queue = item :: rest →
           ∃ erased,
             (∀ a, Memory.read erased a =
               if targetAddress item.target ≤ a ∧ a < targetAddress item.target + item.octets.length then 0xFF#8
               else Memory.read cells a)
             ∧ exec .nvsWordDone s =
               .next { s with nvs := ⟨erased, rest, some ⟨item, item.octets.length / 4, 4⟩⟩ })))

/-- What every step keeps of the store: the canonical form of its octets; at most one waiting item for a target and at most
one panel item; the items' sizes and the place of the panel words; and every octet of the factory region, which no command
writes. -/
def Obligations.StoreIsKept : Prop :=
  ∀ fits : Store → Prop,
    (∀ nvs, fits nvs ↔ ∀ x, (x ∈ nvs.queue ∨ ∃ w, nvs.current = some w ∧ w.item = x) →
      match x.target with
      | .panel a => x.octets.length = 4 ∧ 512 ≤ a ∧ a ≤ 1020 ∧ a % 4 = 0
      | .bh => x.octets.length = 8
      | _ => x.octets.length = 20) →
    fits State.reset.nvs
    ∧ ∀ s t : State, Memory.wf s.nvs.cells = true → writeQueueInvariant s.nvs → fits s.nvs → step s = .next t →
      Memory.wf t.nvs.cells = true ∧ writeQueueInvariant t.nvs ∧ fits t.nvs ∧ t.nvs.queue.length ≤ 4
        ∧ ∀ a < 256, Memory.read t.nvs.cells a = Memory.read s.nvs.cells a

/-! ### The panel link (Chapter 11) -/

/-- An octet on the panel link: hunting, a lead begins a frame and any other octet is discarded; assembling, a length octet above
56 discards the frame and counts PanelCheckFail, an octet that does not complete the frame joins it and starts the gap timer
afresh, and the octet that completes it ends it: a wrong check counts PanelCheckFail, a right check with a kind other than Request
counts PanelKindFail, and a Request goes to the request queue. More than 10 ms without an octet discards a frame being assembled
and counts PanelCheckFail, by the event itself or, when an octet ends the gap first, at that octet, which is then hunted
(log 20); with no frame being assembled the event has no effect (log 2). -/
def Obligations.PanelOctets : Prop :=
  ∀ (s : State) (o : Byte),
    (s.pl.receiver = .hunting → o = 0x3C#8 →
      exec (.panelOctet o) s = .next { s with pl := { s.pl with receiver := .assembling [0x3C#8] 11 } })
    ∧ (s.pl.receiver = .hunting → o ≠ 0x3C#8 → exec (.panelOctet o) s = .next s)
    ∧ (∀ octets, s.pl.receiver = .assembling octets 0 →
      (o = 0x3C#8 → exec (.panelOctet o) s = .next
        { s with pl := { s.pl with receiver := .assembling [0x3C#8] 11, checkFail := s.pl.checkFail + 1#16 } })
      ∧ (o ≠ 0x3C#8 → exec (.panelOctet o) s = .next
        { s with pl := { s.pl with receiver := .hunting, checkFail := s.pl.checkFail + 1#16 } }))
    ∧ (∀ left, s.pl.receiver = .assembling [0x3C#8] left → 0 < left →
      (56 < o.toNat → exec (.panelOctet o) s = .next
        { s with pl := { s.pl with receiver := .hunting, checkFail := s.pl.checkFail + 1#16 } })
      ∧ (o.toNat ≤ 56 → exec (.panelOctet o) s = .next
        { s with pl := { s.pl with receiver := .assembling [0x3C#8, o] 11 } }))
    ∧ (∀ (left : Nat) (n : Byte) (more : List Byte), s.pl.receiver = .assembling (0x3C#8 :: n :: more) left →
      0 < left → n.toNat ≤ 56 →
      (more.length + 3 < 6 + n.toNat →
        exec (.panelOctet o) s = .next
          { s with pl := { s.pl with receiver := .assembling (0x3C#8 :: n :: more ++ [o]) 11 } })
      ∧ (∀ (kind tag : Byte) (payload : List Byte) (c1 c0 : Byte), payload.length = n.toNat →
        more ++ [o] = kind :: tag :: payload ++ [c1, c0] →
        (octets16 (checkOf (0x3C#8 :: n :: kind :: tag :: payload)) ≠ [c1, c0] →
          exec (.panelOctet o) s = .next
            { s with pl := { s.pl with receiver := .hunting, checkFail := s.pl.checkFail + 1#16 } })
        ∧ (octets16 (checkOf (0x3C#8 :: n :: kind :: tag :: payload)) = [c1, c0] → kind ≠ 0x01#8 →
          exec (.panelOctet o) s = .next
            { s with pl := { s.pl with receiver := .hunting, kindFail := s.pl.kindFail + 1#16 } })
        ∧ (octets16 (checkOf (0x3C#8 :: n :: kind :: tag :: payload)) = [c1, c0] → kind = 0x01#8 →
          exec (.panelOctet o) s =
            .next (receiveRequest tag payload { s with pl := { s.pl with receiver := .hunting } }))))
    ∧ (∀ octets left, s.pl.receiver = .assembling octets left →
      exec .panelGapTimeout s = .next
        { s with pl := { s.pl with receiver := .hunting, checkFail := s.pl.checkFail + 1#16 } })
    ∧ (s.pl.receiver = .hunting → exec .panelGapTimeout s = .next s)

/-- A whole Request frame, octet by octet: from a hunting receiver, the octets of a Request frame of any tag and payload of at
most 56 octets, given one after another as PANEL_OCTET commands with nothing between them, do what the arrival of that Request
does, and nothing else. Each Request command of the table does just this with its tag and its payload, so that the commands
and the octets on the link are one thing (log 5); whether the Request is then taken, waits or is dropped is the same for all of
them (RequestQueue). The payload of each is the request number and the fields of Table 11-5, every field high octet first; the
six Service Drive rows carry one part each (log 22). -/
def Obligations.RequestFrames : Prop :=
  (∀ (tag : Byte) (payload frame : List Byte) (s : State), s.pl.receiver = .hunting → payload.length ≤ 56 →
    frame = withCheck ([0x3C#8, octet payload.length, 0x01#8, tag] ++ payload) →
    frame.foldl (fun (t : Option State) o => t.bind fun u => match exec (.panelOctet o) u with
      | .next v => some v
      | _ => none) (some s) = some (receiveRequest tag payload s))
  ∧ (∀ (c : Instr) (tag : Byte) (payload : List Byte) (s : State), requestTag c = some tag →
    requestPayload c = some payload → exec c s = .next (receiveRequest tag payload s))
  ∧ (∀ (tag : Byte) (is : Instr → List Byte → Prop) (o2 : Half → List Byte) (o3 : BitVec 24 → List Byte)
      (o4 : Word → List Byte),
    (∀ c payload, is c payload ↔ requestTag c = some tag ∧ requestPayload c = some payload) →
    (∀ x, o2 x = [x.extractLsb' 8 8, x.extractLsb' 0 8]) →
    (∀ x, o3 x = [x.extractLsb' 16 8, x.extractLsb' 8 8, x.extractLsb' 0 8]) →
    (∀ x, o4 x = [x.extractLsb' 24 8, x.extractLsb' 16 8, x.extractLsb' 8 8, x.extractLsb' 0 8]) →
    (∀ payload, is (.unknownRequest tag payload) payload)
    ∧ (∀ mode, is (.setMode tag mode none) [0x01#8, mode])
    ∧ (∀ mode source, is (.setMode tag mode (some source)) [0x01#8, mode, source])
    ∧ (∀ zone pm rh, is (.setZoneTargets tag zone pm rh) ([0x02#8, zone] ++ o2 pm ++ o2 rh))
    ∧ (∀ zone enabled address pm gain rh drying, is (.loadZoneEntry tag zone enabled address pm gain rh drying)
      ([0x03#8, zone, enabled, address] ++ o2 pm ++ [gain] ++ o2 rh ++ [drying]))
    ∧ (∀ count entries, is (.loadPollList tag count entries)
      ([0x04#8, count] ++ entries.flatMap fun e => [e.1, e.2]))
    ∧ (∀ points, is (.loadFanCurve tag points) ([0x05#8] ++ points.flatMap o2))
    ∧ (∀ profile count bands, is (.loadRampProfile tag profile count bands)
      ([0x06#8, profile, count] ++ bands.flatMap fun b => o2 b.1 ++ [b.2.1, b.2.2]))
    ∧ (∀ number f, is (.loadFilterClass tag number f)
      ([0x07#8, number] ++ o2 f.capacity ++ o2 f.efficiency ++ o2 f.clean ++ o2 f.worn ++ o2 f.absent ++ [f.slope]
        ++ o2 f.reference ++ o2 f.due))
    ∧ (∀ damper fitted travel bleed rest, is (.loadDamperEntry tag damper fitted travel bleed rest)
      ([0x08#8, damper, fitted] ++ o2 travel ++ o2 bleed ++ o2 rest))
    ∧ (∀ f, is (.loadUnitSettings tag f)
      ([0x09#8, f.nodeAddress, f.relayEnable, f.polarity, f.runProfile, f.quietProfile] ++ o2 f.runCap ++ o2 f.quietCap
        ++ o2 f.idleDuty ++ o2 f.coilMinimum ++ o2 f.fixedShare ++ o2 f.holdTime ++ o2 f.callOn ++ o2 f.callOff
        ++ o2 f.wakeThreshold ++ [f.autoWake, f.pumpFitted, f.edges, f.pulses]))
    ∧ (∀ selector index, is (.readTable tag selector index) [0x0A#8, selector, index])
    ∧ (∀ page, is (.readStatus tag page) [0x0B#8, page])
    ∧ (∀ address, is (.readNode tag address) [0x0C#8, address])
    ∧ (∀ zone, is (.readZone tag zone) [0x0D#8, zone])
    ∧ (∀ stage, is (.readStage tag stage) [0x0E#8, stage])
    ∧ is (.readFinishCauses tag) [0x0F#8] ∧ is (.readCounters tag) [0x10#8]
    ∧ (∀ stage number stamp, is (.filterReplaced tag stage number stamp) ([0x11#8, stage, number] ++ o4 stamp))
    ∧ (∀ address length data, is (.forwardToNode tag address length data) ([0x12#8, address, length] ++ data))
    ∧ (∀ kinds, is (.setNoticeMask tag kinds) ([0x13#8] ++ o3 kinds) ∧ is (.clearNotices tag kinds) ([0x14#8] ++ o3 kinds))
    ∧ is (.clearLockout tag) [0x15#8] ∧ is (.clearPumpFault tag) [0x16#8]
    ∧ (∀ demand, is (.serviceBlowerDemand tag demand) ([0x17#8, 0x01#8] ++ o2 demand))
    ∧ (∀ targets, is (.serviceDamperTargets tag targets)
      ([0x17#8, 0x02#8, BitVec.ofNat 8 targets.length] ++ targets.flatMap fun t => t.1 :: o2 t.2))
    ∧ is (.servicePumpOn tag) [0x17#8, 0x04#8, 0x01#8] ∧ is (.servicePumpOff tag) [0x17#8, 0x04#8, 0x00#8]
    ∧ is (.serviceCompressorOn tag) [0x17#8, 0x08#8, 0x01#8] ∧ is (.serviceCompressorOff tag) [0x17#8, 0x08#8, 0x00#8]
    ∧ (∀ address f, is (.injectSample tag address f)
      ([0x18#8, address] ++ o2 f.temperature ++ o2 f.rh ++ o2 f.pm25 ++ o2 f.pm10 ++ o2 f.pressure ++ o2 f.coil
        ++ [f.status]))
    ∧ (∀ address count, is (.storeRead tag address count) ([0x19#8] ++ o2 address ++ [count]))
    ∧ (∀ address data, is (.storeWrite tag address data) ([0x1A#8] ++ o2 address ++ o4 data))
    ∧ is (.zoneLineReset tag) [0x1B#8] ∧ is (.restart tag) [0x1C#8])

/-- The request queue: a Request that finds four waiting is dropped, counted and marked by Overrun, with no trace in the last
error record; one that finds fewer and no room for its Reply, or a Restart pending, waits; one that finds the link ready is taken.
So it is with every Request, whatever command of the table brings it (R167, R168).
The taking of a Request: Unknown with number FFh for an empty payload, Unknown for a number not in Table 11-2, BadLength for a
length other than the one fixed. The rows of the table for such Requests do just this. -/
def Obligations.RequestQueue : Prop :=
  ∀ (tag : Byte) (payload : List Byte) (s : State),
    exec (.unknownRequest tag payload) s = .next (receiveRequest tag payload s)
    ∧ (∀ c : Instr, requestTag c = some tag → requestPayload c = some payload →
      (s.pl.requests.length = 4 → 4 ≤ countFrames .reply s.pl.upward ∨ s.pl.restartPending = true →
        exec c s = .next { s with pl := { s.pl with requestsDropped := s.pl.requestsDropped + 1#16, overrun := true } })
      ∧ (s.pl.requests.length < 4 → 4 ≤ countFrames .reply s.pl.upward ∨ s.pl.restartPending = true →
        exec c s = .next { s with pl := { s.pl with requests := s.pl.requests ++ [⟨tag, payload⟩] } })
      ∧ (linkReady s.pl = true → exec c s = .next (takeRequest ⟨tag, payload⟩ s)))
    ∧ (s.pl.requests.length = 4 → 4 ≤ countFrames .reply s.pl.upward ∨ s.pl.restartPending = true →
      exec (.unknownRequest tag payload) s =
        .next { s with pl := { s.pl with requestsDropped := s.pl.requestsDropped + 1#16, overrun := true } })
    ∧ (s.pl.requests.length < 4 → 4 ≤ countFrames .reply s.pl.upward ∨ s.pl.restartPending = true →
      exec (.unknownRequest tag payload) s =
        .next { s with pl := { s.pl with requests := s.pl.requests ++ [⟨tag, payload⟩] } })
    ∧ (linkReady s.pl = true ↔
      s.pl.requests = [] ∧ countFrames .reply s.pl.upward < 4 ∧ s.pl.restartPending = false)
    ∧ (linkReady s.pl = true → payload = [] →
      exec (.unknownRequest tag payload) s = .next (replyWith tag 0xFF#8 .unknown [] s))
    ∧ (∀ (number : Byte) (fields : List Byte), linkReady s.pl = true → payload = number :: fields →
      (number = 0#8 ∨ 0x1C < number.toNat →
        exec (.unknownRequest tag payload) s = .next (replyWith tag number .unknown [] s))
      ∧ (∀ kind n, requestOf number = some kind → fixedLength kind = some n → payload.length ≠ n →
        exec (.unknownRequest tag payload) s = .next (replyWith tag number .badLength [] s)))
    ∧ (∀ r rest, s.pl.requests = r :: rest → countFrames .reply s.pl.upward < 4 → s.pl.restartPending = false →
      takeAll s = takeRequests rest.length (takeRequest r { s with pl := { s.pl with requests := rest } }))

/-- A Reply, and what every Request does whatever its owner: the Reply joins the back of the upward queue with the Request's tag,
its number, the status and the reply data, or begins at once on an idle transmitter with an empty queue; a Request refused with
any status changes nothing else; the last error record takes every status other than Done and Clamped with the request number,
stands at Done and Clamped, and is cleared by a Read Status naming page 0 alone; and no Request sets the time base. -/
def Obligations.RepliesAndErrors : Prop :=
  (∀ (tag number : Byte) (status : Status) (data : List Byte) (pl noted : Panel) (f : Frame),
    noted = (if status = .done ∨ status = .clamped then pl else { pl with errorStatus := status, errorRequest := number }) →
    f = ⟨.reply, tag, [number, statusCode status] ++ data⟩ →
    (∀ x, pl.sending = some x → (∀ e ∈ pl.pending, pl.mask.getLsbD (noticeCode e.kind) = true)
        ∨ 4 ≤ countFrames .notice pl.upward →
      placeReply tag number status data pl = { noted with upward := pl.upward ++ [f] })
    ∧ (pl.sending = none → pl.upward = [] → (∀ e ∈ pl.pending, pl.mask.getLsbD (noticeCode e.kind) = true) →
      placeReply tag number status data pl = { noted with sending := some ⟨f, panelLinkTime (6 + f.payload.length)⟩ }))
  ∧ ∀ (payload : List Byte) (s : State) (a : Answer), a = answer payload s →
    (a.status ≠ .done → a.status ≠ .clamped → a.state = s ∧ a.data = [])
    ∧ (∀ tag, takeRequest ⟨tag, payload⟩ s = replyWith tag (payload.headD 0xFF#8) a.status a.data a.state)
    ∧ (∀ tag, a.status ≠ .done → a.status ≠ .clamped →
      (takeRequest ⟨tag, payload⟩ s).pl.errorStatus = a.status
      ∧ (takeRequest ⟨tag, payload⟩ s).pl.errorRequest = payload.headD 0xFF#8)
    ∧ (∀ tag, a.status = .done ∨ a.status = .clamped → payload ≠ [0x0B#8, 0x00#8] →
      (takeRequest ⟨tag, payload⟩ s).pl.errorStatus = s.pl.errorStatus
      ∧ (takeRequest ⟨tag, payload⟩ s).pl.errorRequest = s.pl.errorRequest)
    ∧ (∀ tag, payload = [0x0B#8, 0x00#8] →
      (takeRequest ⟨tag, payload⟩ s).pl.errorStatus = .done ∧ (takeRequest ⟨tag, payload⟩ s).pl.errorRequest = 0#8
      ∧ (takeRequest ⟨tag, payload⟩ s).pl.overrun = false)
    ∧ (∀ tag, (takeRequest ⟨tag, payload⟩ s).iu.timeBase = s.iu.timeBase)

/-- Notices, Relays and the transmitter (R166, R171 to R173). What the link does of itself until nothing more can be done: while
an unmasked entry is pending and fewer than 4 Notices stand, a Notice is formed of the oldest one and joins the back; an idle
transmitter begins the frame at the front; and its departure may let another form. So at each post, at each NOTICE_FORM, at
each change of the mask, at each Relay and at the last octet of each frame, which also lets Requests be taken. A post of an
entry already pending adds none. A Relay that finds 16 standing removes the oldest and is counted. The octets of a frame on the
link are the lead, the length, the kind, the tag, the payload and the check. The link does all this inside the command that makes
it possible (log 6); NOTICE_FORM with nothing to do and UPWARD_FRAME_END with no frame in transmission have no effect (log 2).
Set Notice Mask and Clear Notices are refused
BadTable for any of bits 18 to 23; else the mask is replaced whole, or every pending entry of the kinds named is removed. -/
def Obligations.NoticesAndFrames : Prop :=
  (∀ (pl : Panel) (formable : Prop),
    (formable ↔ countFrames .notice pl.upward < 4 ∧ ∃ e ∈ pl.pending, pl.mask.getLsbD (noticeCode e.kind) = false) →
    (∀ before e after, countFrames .notice pl.upward < 4 → pl.pending = before ++ e :: after →
      pl.mask.getLsbD (noticeCode e.kind) = false → (∀ y ∈ before, pl.mask.getLsbD (noticeCode y.kind) = true) →
      pump pl = pump { pl with
        pending := before ++ after
        upward := pl.upward ++ [⟨.notice, pl.upNumber, [octet (noticeCode e.kind), e.subject.getD 0xFF#8]⟩]
        upNumber := pl.upNumber + 1#8 })
    ∧ (∀ f rest, ¬ formable → pl.sending = none → pl.upward = f :: rest →
      pump pl = pump { pl with upward := rest, sending := some ⟨f, panelLinkTime (6 + f.payload.length)⟩ })
    ∧ (∀ x, ¬ formable → pl.sending = some x → pump pl = pl)
    ∧ (¬ formable → pl.upward = [] → pump pl = pl))
  ∧ (∀ (kind : NoticeKind) (subject : Option Byte) (pl : Panel) (e : PendingNotice), e = ⟨kind, subject⟩ →
    post kind subject pl = pump { pl with pending := if e ∈ pl.pending then pl.pending else pl.pending ++ [e] })
  ∧ (∀ s : State, exec .noticeForm s = .next { s with pl := pump s.pl })
  ∧ (∀ (s : State) (x : Sending), s.pl.sending = some x →
    (∀ before e after, s.pl.pending = before ++ e :: after → countFrames .notice s.pl.upward = 3 →
      s.pl.mask.getLsbD (noticeCode e.kind) = false →
      (∀ y ∈ before, s.pl.mask.getLsbD (noticeCode y.kind) = true) →
      exec .noticeForm s = .next { s with pl := { s.pl with
        pending := before ++ after
        upward := s.pl.upward ++ [⟨.notice, s.pl.upNumber, [octet (noticeCode e.kind), e.subject.getD 0xFF#8]⟩]
        upNumber := s.pl.upNumber + 1#8 } })
    ∧ ((∀ y ∈ s.pl.pending, s.pl.mask.getLsbD (noticeCode y.kind) = true) ∨ 4 ≤ countFrames .notice s.pl.upward →
      exec .noticeForm s = .next s))
  ∧ (∀ (payload : List Byte) (pl : Panel),
    (countFrames .relay pl.upward < 16 →
      placeRelay payload pl = pump { pl with
        upward := pl.upward ++ [⟨.relay, pl.upNumber, payload⟩], upNumber := pl.upNumber + 1#8 })
    ∧ (∀ before r after, 16 ≤ countFrames .relay pl.upward → pl.upward = before ++ r :: after → r.kind = .relay →
      (∀ f ∈ before, f.kind ≠ .relay) →
      placeRelay payload pl = pump { pl with
        upward := before ++ after ++ [⟨.relay, pl.upNumber, payload⟩], upNumber := pl.upNumber + 1#8
        relaysDropped := pl.relaysDropped + 1#16 }))
  ∧ (∀ (s : State) (x : Sending), s.pl.sending = some x →
    s.pl.restartPending = false ∨ ¬ (x.frame.kind = .reply ∧ x.frame.payload = [0x1C#8, 0x00#8]) →
    exec .upwardFrameEnd s = .next (takeAll { s with pl := pump { s.pl with sending := none } })
    ∧ (∀ f rest before e after, s.pl.upward = f :: rest → s.pl.requests = [] → f.kind = .notice →
      countFrames .notice rest = 3 → s.pl.pending = before ++ e :: after →
      s.pl.mask.getLsbD (noticeCode e.kind) = false → (∀ y ∈ before, s.pl.mask.getLsbD (noticeCode y.kind) = true) →
      exec .upwardFrameEnd s = .next { s with pl := { s.pl with
        pending := before ++ after
        upward := rest ++ [⟨.notice, s.pl.upNumber, [octet (noticeCode e.kind), e.subject.getD 0xFF#8]⟩]
        upNumber := s.pl.upNumber + 1#8, sending := some ⟨f, panelLinkTime (6 + f.payload.length)⟩ } })
    ∧ ((∀ y ∈ s.pl.pending, s.pl.mask.getLsbD (noticeCode y.kind) = true) →
      (s.pl.upward = [] → s.pl.requests = [] →
        exec .upwardFrameEnd s = .next { s with pl := { s.pl with sending := none } })
      ∧ (∀ f rest, s.pl.upward = f :: rest → s.pl.requests = [] →
        exec .upwardFrameEnd s = .next { s with pl := { s.pl with
          upward := rest, sending := some ⟨f, panelLinkTime (6 + f.payload.length)⟩ } })
      ∧ (∀ f rest r, s.pl.upward = f :: rest → s.pl.requests = [r] → countFrames .reply rest < 4 →
        s.pl.restartPending = false →
        exec .upwardFrameEnd s = .next (takeRequest r { s with pl := { s.pl with
          upward := rest, sending := some ⟨f, panelLinkTime (6 + f.payload.length)⟩, requests := [] } }))))
  ∧ (∀ s : State, s.pl.sending = none → exec .upwardFrameEnd s = .next s)
  ∧ (∀ (f : Frame) (left : Nat) (pl : Panel) (body : List Byte),
    body = [0x3C#8, octet f.payload.length, match f.kind with
      | .reply => 0x02#8
      | .relay => 0x03#8
      | .notice => 0x04#8, f.tag] ++ f.payload →
    (pl.sending = some ⟨f, left⟩ → upwardOctets pl = body ++ octets16 (checkOf body))
    ∧ (pl.sending = none → upwardOctets pl = []))
  ∧ (∀ (tag : Byte) (bits : BitVec 24) (s : State), linkReady s.pl = true →
    (bits &&& 0xFC0000#24 ≠ 0#24 →
      exec (.setNoticeMask tag bits) s = .next (replyWith tag 0x13#8 .badTable [] s)
      ∧ exec (.clearNotices tag bits) s = .next (replyWith tag 0x14#8 .badTable [] s))
    ∧ (bits &&& 0xFC0000#24 = 0#24 →
      exec (.setNoticeMask tag bits) s =
        .next (replyWith tag 0x13#8 .done [] { s with pl := pump { s.pl with mask := bits } })
      ∧ exec (.clearNotices tag bits) s =
        .next (replyWith tag 0x14#8 .done []
          { s with pl := { s.pl with pending := s.pl.pending.filter fun e => !bits.getLsbD (noticeCode e.kind) } })))

/-- The bounds of the link's queues, kept by every step: at most 16 Relays, 4 Replies and 4 Notices in the upward queue and so at
most 24 frames, at most 4 Requests and 4 Node Messages, and no two pending notice entries of the same kind and subject. -/
def Obligations.QueueBoundsAreKept : Prop :=
  (∀ pl : Panel, upwardInvariant pl = true → pl.upward.length ≤ 24)
  ∧ ∀ s t : State, upwardInvariant s.pl = true → noticesDistinct s.pl → queuesBounded s → step s = .next t →
    upwardInvariant t.pl = true ∧ noticesDistinct t.pl ∧ queuesBounded t

/-- What every step keeps of the tables and the filter accounts: every table stays within the ranges its load request tests; every
dose remainder stays less than 3,600,000,000, every dose at most 4,294,967,295, and every held pressure life and life at most
1999. -/
def Obligations.TablesAndAccountsAreKept : Prop :=
  (∀ s t : State, tablesInRange s = true → step s = .next t → tablesInRange t = true)
  ∧ (∀ s t : State, filtersInvariant s.fs = true → step s = .next t → filtersInvariant t.fs = true)
  ∧ ∀ fs : Filters, filtersInvariant fs = true → ∀ r, r = fs.pre ∨ r = fs.fine →
    r.remainder < 3600000000 ∧ r.dose ≤ 4294967295 ∧ r.held ≤ 1999 ∧ r.life ≤ 1999

/-! ### The other Requests -/

/-- Forward To Node, Inject Sample and Zone Line Reset, taken when they arrive. A forward is refused BadIndex, BadLength or Full in
this order, and else joins the back of the down queue, sent at once on a line idle between cycles. An injected sample is refused
BadMode outside Service with source Inject, then BadIndex without a record, and else is an accepted reading stamped now, its
fields decoded by R11, the last sequence kept, Accepted counted and NodeBack posted for a Lost node. A Zone Line Reset sets the
intake state back, and a new cycle starts at once where cycles run; over an empty poll list it ends at once. That it starts at
once also during a Node Message and the 5 ms wait after one is the model's reading (log 18). -/
def Obligations.LineRequests : Prop :=
  ∀ (tag : Byte) (s : State), linkReady s.pl = true →
    (∀ (address n : Byte) (data : List Byte),
      (address.toNat = 0 ∨ 31 < address.toNat →
        exec (.forwardToNode tag address n data) s = .next (replyWith tag 0x12#8 .badIndex [] s))
      ∧ (1 ≤ address.toNat → address.toNat ≤ 31 → 18 < n.toNat ∨ n.toNat ≠ data.length →
        exec (.forwardToNode tag address n data) s = .next (replyWith tag 0x12#8 .badLength [] s))
      ∧ (1 ≤ address.toNat → address.toNat ≤ 31 → n.toNat ≤ 18 → n.toNat = data.length → 4 ≤ s.iu.down.length →
        exec (.forwardToNode tag address n data) s = .next (replyWith tag 0x12#8 .full [] s))
      ∧ (1 ≤ address.toNat → address.toNat ≤ 31 → n.toNat ≤ 18 → n.toNat = data.length → s.iu.down.length < 4 →
        (s.iu.phase ≠ .idle ∨ s.iu.startDue = true →
          exec (.forwardToNode tag address n data) s = .next (replyWith tag 0x12#8 .done []
            { s with iu := { s.iu with down := s.iu.down ++ [⟨address, data⟩] } }))
        ∧ (s.iu.phase = .idle → s.iu.startDue = false → s.iu.down = [] →
          exec (.forwardToNode tag address n data) s = .next (replyWith tag 0x12#8 .done [] { s with iu := { s.iu with
            down := [⟨address, data⟩], phase := .message (zoneLineTime (messageFrame address data).length)
            sending := messageFrame address data, onWire := [corrected s.iu.polarity 0x74#8] } }))
        ∧ (∀ m rest, s.iu.phase = .idle → s.iu.startDue = false → s.iu.down = m :: rest →
          exec (.forwardToNode tag address n data) s = .next (replyWith tag 0x12#8 .done [] { s with iu := { s.iu with
            down := s.iu.down ++ [⟨address, data⟩], phase := .message (zoneLineTime (messageFrame m.address m.data).length)
            sending := messageFrame m.address m.data, onWire := [corrected s.iu.polarity 0x74#8] } }))))
    ∧ (∀ (address : Byte) (f : SampleFields),
      (s.mc.mode ≠ .service ∨ s.mc.source ≠ .inject →
        exec (.injectSample tag address f) s = .next (replyWith tag 0x18#8 .badMode [] s))
      ∧ (s.mc.mode = .service → s.mc.source = .inject → findNode address.toNat s.iu.nodes = none →
        exec (.injectSample tag address f) s = .next (replyWith tag 0x18#8 .badIndex [] s))
      ∧ (∀ (r : NodeRecord) (fields : Reading) (back : List Signal),
        s.mc.mode = .service → s.mc.source = .inject → findNode address.toNat s.iu.nodes = some r →
        fields =
          { temperature := if f.temperature = 0x7FFF#16 then none else some (max (-400) (min 850 f.temperature.toInt))
            rh := if f.rh = 0x7FFF#16 then none else some (min 1000 f.rh.toNat)
            pm25 := if f.pm25 = 0x7FFF#16 then none else some (min 1000 f.pm25.toNat)
            pm10 := if f.pm10 = 0x7FFF#16 then none else some (min 1000 f.pm10.toNat)
            pressure := if f.pressure = 0x7FFF#16 then none else some (min 1000 f.pressure.toNat)
            coil := if f.coil = 0x7FFF#16 then none else some (max (-400) (min 850 f.coil.toInt))
            status := some f.status } →
        back = (if r.state = .lost then [.notice .nodeBack (some address)] else []) →
        ∃ nodes,
          exec (.injectSample tag address f) s = .next (replyWith tag 0x18#8 .done []
            (settle (back ++ [.reading address.toNat s.iu.timeBase r.lastSequence fields])
              { s with iu := { s.iu with nodes := nodes, live := { s.iu.live with accepted := s.iu.live.accepted + 1#16 } } }))
          ∧ findNode address.toNat nodes = some { r with
              state := .live, misses := 0, last := fields, lastAccept := some s.iu.timeBase, accepted := r.accepted + 1#32 }
          ∧ ∀ a, a ≠ address.toNat → findNode a nodes = findNode a s.iu.nodes))
    ∧ (∀ iu : Intake,
      iu = { s.iu with
        nodes := s.iu.nodes.map fun r => NodeRecord.fresh r.address r.form
        live := IntakeCounters.zero, snapshot := IntakeCounters.zero, cycleNumber := 0#16, badWindows := 0
        polarity := if s.mc.settings.polarity = .inverted then .inverted else .normal
        down := [], phase := .idle, sending := [], onWire := [] } →
      (intervalNow s = none →
        exec (.zoneLineReset tag) s = .next (replyWith tag 0x1B#8 .done []
          (settle [.lineReset] { s with iu := { iu with startDue := false } })))
      ∧ (∀ ms e rest, intervalNow s = some ms → s.iu.pollList = e :: rest →
        exec (.zoneLineReset tag) s = .next (replyWith tag 0x1B#8 .done []
          (settle [.lineReset] { s with iu := { iu with
            startDue := false, lastStart := some s.iu.timeBase
            nextStart := some (s.iu.timeBase + BitVec.ofNat 32 ms)
            phase := .poll 0 (zoneLineTime 4), sending := pollFrame e.address
            onWire := [corrected iu.polarity 0x70#8] } })))
      ∧ (∀ ms, intervalNow s = some ms → s.iu.pollList = [] →
        exec (.zoneLineReset tag) s = .next (replyWith tag 0x1B#8 .done []
          (settle [.lineReset] { s with iu := { iu with
            startDue := false, lastStart := some s.iu.timeBase
            nextStart := some (s.iu.timeBase + BitVec.ofNat 32 ms), cycleNumber := 1#16 } })))
      ∧ (∀ z : Zone, zoneLineReset z = if z.entry.node = 0 then z else { z with
          sample := .stale, pm25 := none, rh := none, temperature := none, lastAccept := none, holdExpiry := none }))

/-- Clear Lockout, Clear Pump Fault and Restart, taken when they arrive. Clear Lockout is refused BadMode outside Off; in Off it
takes a Lockout to Idle with the timeout count 0, and changes nothing in another state. Clear Pump Fault takes a pump in Fault to
Off with count 0, from where a run starts at High or Full outside Service, and changes nothing in another state. A Restart is
pending from its taking on. Set Notice Mask and Clear Notices are refused BadTable for any of bits 18 to 23; else the mask is
replaced whole, and Notices form under it, or every pending entry of the kinds named is removed. -/
def Obligations.ClearsAndRestart : Prop :=
  ∀ (tag : Byte) (s : State), linkReady s.pl = true →
    (s.mc.mode ≠ .off → exec (.clearLockout tag) s = .next (replyWith tag 0x15#8 .badMode [] s))
    ∧ (s.mc.mode = .off → s.ds.state ≠ .lockout →
      exec (.clearLockout tag) s = .next (replyWith tag 0x15#8 .done [] s))
    ∧ (s.mc.mode = .off → s.ds.state = .lockout → s.ds.mode = .off →
      exec (.clearLockout tag) s =
        .next (replyWith tag 0x15#8 .done [] { s with ds := { s.ds with state := .idle, timeouts := 0 } }))
    ∧ (s.tm.pump ≠ .fault → exec (.clearPumpFault tag) s = .next (replyWith tag 0x16#8 .done [] s))
    ∧ (s.tm.pump = .fault →
      s.mc.settings.pumpFitted = true → s.mc.mode ≠ .service → s.tm.level = .high ∨ s.tm.level = .full →
      exec (.clearPumpFault tag) s = .next (replyWith tag 0x16#8 .done [] { s with tm := { s.tm with
        pump := .running, timeouts := 0, maxRunLeft := some 90000, serviceRun := false } }))
    ∧ (s.tm.pump = .fault →
      s.mc.settings.pumpFitted = false ∨ s.mc.mode = .service ∨ (s.tm.level ≠ .high ∧ s.tm.level ≠ .full) →
      exec (.clearPumpFault tag) s =
        .next (replyWith tag 0x16#8 .done [] { s with tm := { s.tm with pump := .off, timeouts := 0 } }))
    ∧ exec (.restart tag) s = .next (replyWith tag 0x1C#8 .done [] { s with pl := { s.pl with restartPending := true } })
    ∧ (∀ bits : BitVec 24,
      (bits &&& 0xFC0000#24 ≠ 0#24 →
        exec (.setNoticeMask tag bits) s = .next (replyWith tag 0x13#8 .badTable [] s)
        ∧ exec (.clearNotices tag bits) s = .next (replyWith tag 0x14#8 .badTable [] s))
      ∧ (bits &&& 0xFC0000#24 = 0#24 →
        exec (.setNoticeMask tag bits) s =
          .next (replyWith tag 0x13#8 .done [] { s with pl := pump { s.pl with mask := bits } })
        ∧ exec (.clearNotices tag bits) s =
          .next (replyWith tag 0x14#8 .done []
            { s with pl := { s.pl with pending := s.pl.pending.filter fun e => !bits.getLsbD (noticeCode e.kind) } })))

/-- The reads, taken when they arrive: Read Node, Read Zone, Read Stage, Read Finish Causes and Read Counters, their refusals and
their reply data laid out as Table 11-5. They change nothing but for their Reply. The octets of an absent time and of an absent
airflow record are free, and each read that may carry such octets counts one free value drawn (log 13). -/
def Obligations.ReadRequests : Prop :=
  ∀ (tag : Byte) (s drawn : State), linkReady s.pl = true → drawn = { s with freeUsed := s.freeUsed + 1 } →
    (∀ address : Byte,
      (findNode address.toNat s.iu.nodes = none →
        exec (.readNode tag address) s = .next (replyWith tag 0x0C#8 .badIndex [] s))
      ∧ (∀ r, findNode address.toNat s.iu.nodes = some r →
        ∃ time : List Byte, time.length = 4 ∧ (∀ t, r.lastAccept = some t → time = octets32 t)
          ∧ exec (.readNode tag address) s = .next (replyWith tag 0x0C#8 .done
            ([octet r.address, formCode r.form, nodeStateCode r.state, octet r.misses, r.lastSequence.getD 0xFF#8,
              (if r.last.status.isSome then 1#8 else 0#8) ||| (if r.lastAccept.isSome then 2#8 else 0#8)
                ||| (if r.lastSequence.isSome then 4#8 else 0#8)]
              ++ (readingInt16 r.last.temperature ++ readingNat16 r.last.rh ++ readingNat16 r.last.pm25
                ++ readingNat16 r.last.pm10 ++ readingNat16 r.last.pressure ++ readingInt16 r.last.coil)
              ++ [r.last.status.getD 0xFF#8] ++ time ++ octets32 r.accepted) drawn)))
    ∧ (∀ zone : Byte,
      (6 ≤ zone.toNat → exec (.readZone tag zone) s = .next (replyWith tag 0x0D#8 .badIndex [] s))
      ∧ (∀ (i : Fin 6) (z : Zone), zone.toNat = i.val → z = s.dmu.zones.get i →
        ∃ accept expiry : List Byte, accept.length = 4 ∧ expiry.length = 4
          ∧ (∀ t, z.lastAccept = some t → accept = octets32 t) ∧ (∀ t, z.holdExpiry = some t → expiry = octets32 t)
          ∧ exec (.readZone tag zone) s = .next (replyWith tag 0x0D#8 .done
            ([zone, boolCode z.entry.enabled, octet z.entry.node] ++ nat16 z.entry.pmTarget ++ [octet z.entry.gain]
              ++ nat16 z.entry.rhTarget ++ [boolCode z.entry.drying, sampleCode z.sample] ++ readingNat16 z.pm25
              ++ readingNat16 z.rh ++ readingInt16 z.temperature
              ++ [(if z.lastAccept.isSome then 1#8 else 0#8) ||| (if z.holdExpiry.isSome then 2#8 else 0#8)]
              ++ accept ++ expiry ++ nat16 z.dPm ++ readingInt16 z.err ++ nat16 z.dRh ++ nat16 z.d ++ nat16 z.opening
              ++ optNat16 z.target) drawn)))
    ∧ (∀ stage : Byte,
      (stage ≠ 1#8 → stage ≠ 2#8 → exec (.readStage tag stage) s = .next (replyWith tag 0x0E#8 .badIndex [] s))
      ∧ (∀ (r : StageRecord) (absent present : Nat),
        (stage = 1#8 ∧ r = s.fs.pre ∧ absent = 0 ∧ present = 0)
          ∨ (stage = 2#8 ∧ r = s.fs.fine ∧ absent = r.absentCount ∧ present = r.presentCount) →
        ∃ air : List Byte, air.length = 15
          ∧ (∀ a, s.du.airflow = some a → air = octets32 a.stamp ++ nat16 a.speed ++ nat16 a.free ++ nat16 a.restriction
              ++ nat16 a.airflow ++ nat16 a.interval ++ [boolCode a.clamped])
          ∧ exec (.readStage tag stage) s = .next (replyWith tag 0x0E#8 .done
            ([stage, octet r.number.val] ++ nat32 r.dose ++ nat32 r.remainder ++ nat16 r.held ++ nat16 r.life
              ++ [stageStateCode r.state, boolCode r.restored] ++ nat16 r.checkpointLife ++ octets32 r.stamp
              ++ [boolCode r.unsaved, octet absent, octet present] ++ octets16 s.du.gaps
              ++ [boolCode s.du.airflow.isSome] ++ air) drawn)))
    ∧ exec (.readFinishCauses tag) s = .next (replyWith tag 0x0F#8 .done
        [blowerFinishCode s.bd.finish, compressorFinishCode s.ds.finish, pumpFinishCode s.tm.finish,
          damperFinishCode s.dp.dampers.z0.finish, damperFinishCode s.dp.dampers.z1.finish,
          damperFinishCode s.dp.dampers.z2.finish, damperFinishCode s.dp.dampers.z3.finish,
          damperFinishCode s.dp.dampers.z4.finish, damperFinishCode s.dp.dampers.z5.finish] s)
    ∧ exec (.readCounters tag) s = .next (replyWith tag 0x10#8 .done
        (octets16 s.iu.snapshot.accepted ++ octets16 s.iu.snapshot.checkFail ++ octets16 s.iu.snapshot.timeout
          ++ octets16 s.iu.snapshot.stray ++ octets16 s.iu.snapshot.duplicate ++ octets16 s.iu.snapshot.formMismatch
          ++ octets16 s.iu.snapshot.polarityFlips ++ octets16 s.iu.cycleNumber) s)

/-- Read Table and Read Status, taken when they arrive. Read Table is refused BadTable for a selector outside 0 to 5 and BadIndex
for an index out of range of the profiles, classes and dampers; else it returns the selector, the index and the table as its load
request lays it out, and changes nothing. Read Status is refused BadIndex for a page outside 0 to 4; else it returns the page of
Table 11-6; page 0 then clears the Overrun flag and the last error record; the other pages change nothing, but that the two
roundings of page 4 to whole seconds, open where a part of a second is left, count as drawn (log 14). That page 0 returns the
source octet and the parts of the service record as held also outside Service, where R149 and R155 do not give them, is the
model's reading (log 23). -/
def Obligations.TablesAndStatus : Prop :=
  ∀ (tag : Byte) (s : State), linkReady s.pl = true →
    (∀ (selector index : Byte) (answers : List Byte → Prop),
      (∀ table, answers table ↔ exec (.readTable tag selector index) s =
        .next (replyWith tag 0x0A#8 .done (selector :: index :: table) s)) →
      (5 < selector.toNat → exec (.readTable tag selector index) s = .next (replyWith tag 0x0A#8 .badTable [] s))
      ∧ (selector = 0#8 →
        answers (octet s.iu.pollList.length :: s.iu.pollList.flatMap fun e => [octet e.address, formCode e.form]))
      ∧ (selector = 1#8 → answers (s.du.curve.flatMap nat16))
      ∧ (selector = 2#8 ∨ selector = 3#8 → 4 ≤ index.toNat →
        exec (.readTable tag selector index) s = .next (replyWith tag 0x0A#8 .badIndex [] s))
      ∧ (∀ i : Fin 4, index.toNat = i.val →
        (∀ bands, selector = 2#8 → bands = s.bd.profiles.get i →
          answers (octet bands.length :: bands.flatMap fun b => nat16 b.ceiling ++ [octet b.rise, octet b.fall]))
        ∧ (∀ c, selector = 3#8 → c = s.fs.classes.get i →
          answers (nat16 c.capacity ++ nat16 c.efficiency ++ nat16 c.clean ++ nat16 c.worn ++ nat16 c.absent
            ++ [octet c.slope] ++ nat16 c.reference ++ nat16 c.due)))
      ∧ (selector = 4#8 → 6 ≤ index.toNat →
        exec (.readTable tag selector index) s = .next (replyWith tag 0x0A#8 .badIndex [] s))
      ∧ (∀ (i : Fin 6) (e : DamperEntry), selector = 4#8 → index.toNat = i.val → e = (s.dp.dampers.get i).entry →
        answers ([boolCode e.fitted] ++ nat16 e.travel ++ nat16 e.bleed ++ nat16 e.rest))
      ∧ (∀ u : Settings, selector = 5#8 → u = s.mc.settings →
        answers ([octet u.nodeAddress, boolCode u.relayEnable, polarityCode u.polarity, octet u.runProfile.val,
            octet u.quietProfile.val] ++ nat16 u.runCap ++ nat16 u.quietCap ++ nat16 u.idleDuty ++ nat16 u.coilMinimum
          ++ nat16 u.fixedShare ++ nat16 u.holdTime ++ int16 u.callOn ++ int16 u.callOff ++ nat16 u.wakeThreshold
          ++ [boolCode u.autoWake, boolCode u.pumpFitted, octet u.edges, octet u.pulses])))
    ∧ (∀ page : Byte, 4 < page.toNat →
      exec (.readStatus tag page) s = .next (replyWith tag 0x0B#8 .badIndex [] s))
    ∧ (∀ (onOff : Option Bool → Byte), (∀ b, onOff (some b) = boolCode b) → onOff none = 0xFF#8 →
      exec (.readStatus tag 0x00#8) s = .next (replyWith tag 0x0B#8 .done
        ([0x00#8, modeCode s.mc.mode, sourceCode s.mc.source, boolCode s.pl.overrun, statusCode s.pl.errorStatus,
            s.pl.errorRequest]
          ++ octets16 s.pl.requestsDropped ++ octets16 s.pl.relaysDropped ++ octets16 s.pl.checkFail
          ++ octets16 s.pl.kindFail
          ++ [0x00#8, octet (countFrames .relay s.pl.upward), octet (countFrames .reply s.pl.upward),
            octet (countFrames .notice s.pl.upward), octet s.pl.pending.length]
          ++ octets24 s.pl.mask ++ [boolCode s.dmu.call] ++ nat16 s.dmu.demandedDuty ++ optNat16 s.mc.record.blower
          ++ [onOff s.mc.record.pump, onOff s.mc.record.compressor])
        { s with pl := { s.pl with overrun := false, errorStatus := .done, errorRequest := 0#8 } }))
    ∧ exec (.readStatus tag 0x01#8) s = .next (replyWith tag 0x0B#8 .done
        ([0x01#8] ++ nat16 s.bd.applied ++ nat16 s.bd.staged ++ nat16 s.bd.allowance
          ++ [blowerStateCode s.bd.state, octet s.bd.retryCount] ++ nat16 s.bd.speed ++ octets16 s.bd.cuts
          ++ nat32 s.bd.runSeconds ++ [dsStateCode s.ds.state, boolCode s.ds.compressor, octet s.ds.timeouts,
            octet ((s.ds.offLeft.getD 0 + 999) / 1000)]) s)
    ∧ (∀ line : Damper → List Byte,
      (∀ d, line d = [damperStateCode d.state] ++ optNat16 d.position ++ optNat16 d.target ++ nat16 d.share
        ++ nat16 d.pending) →
      exec (.readStatus tag 0x02#8) s = .next (replyWith tag 0x0B#8 .done
        ([0x02#8] ++ line s.dp.dampers.z0 ++ line s.dp.dampers.z1 ++ line s.dp.dampers.z2) s)
      ∧ exec (.readStatus tag 0x03#8) s = .next (replyWith tag 0x0B#8 .done
        ([0x03#8] ++ line s.dp.dampers.z3 ++ line s.dp.dampers.z4 ++ line s.dp.dampers.z5) s))
    ∧ (∀ switch : Option Bool → Byte, switch (some false) = 0#8 → switch (some true) = 1#8 → switch none = 2#8 →
      ∃ rearm pump : Nat, (rearm = s.tm.rearmLeft.getD 0 / 1000 ∨ rearm = (s.tm.rearmLeft.getD 0 + 999) / 1000)
        ∧ (pump = ((s.tm.maxRunLeft.or s.tm.restLeft).getD 0) / 1000
          ∨ pump = ((s.tm.maxRunLeft.or s.tm.restLeft).getD 0 + 999) / 1000)
        ∧ exec (.readStatus tag 0x04#8) s = .next (replyWith tag 0x0B#8 .done
          ([0x04#8, switch s.tm.present.debounced, switch s.tm.low.debounced, switch s.tm.high.debounced,
              switch s.tm.full.debounced, levelCode s.tm.level, boolCode s.tm.blocked, octet rearm,
              pumpStateCode s.tm.pump, boolCode s.tm.serviceRun, octet pump, octet s.tm.timeouts,
              octet s.nvs.queue.length]
            ++ (match s.nvs.current.map (fun w => w.item.target) with
              | none => [0xFF#8, 0xFF#8]
              | some .f1 => [0x46#8, 0x31#8]
              | some .f2 => [0x46#8, 0x32#8]
              | some .bh => [0x42#8, 0x48#8]
              | some (.panel a) => nat16 a))
          { s with freeUsed := s.freeUsed + 2 }))

end Statements
end

