-- ==== Sys2Proof/Laws/Filter.lean ====
section
/-! SUPPORT. The handling of a unit reading by the filter stages: what each of its steps can deliver, and what it leaves of
the Missing condition. -/
namespace Sys2Proof.Machine

/-- Step 2 delivers notices alone. -/
theorem deriveState_notices (fine : Bool) (cls : FilterClass) (r : StageRecord) :
    ∀ x ∈ (deriveState fine cls r).2.1, ∃ kind subject, x = Signal.notice kind subject := by
  unfold deriveState
  split
  · simp
  · simp only
    split
    · simp
    · split <;> simp

/-- Step 2 neither sets nor clears Missing. -/
theorem deriveState_missing (fine : Bool) (cls : FilterClass) (r : StageRecord) :
    (deriveState fine cls r).1.state = .missing ↔ r.state = .missing := by
  have derived : stageStateOf r.life cls.due ≠ .missing := by unfold stageStateOf; repeat' split <;> simp
  unfold deriveState
  split
  · simp [*]
  · simp only
    split
    · simp [*]
    · split <;> simp_all

/-- Step 3 delivers checkpoints alone. -/
theorem decideCheckpoint_checkpoints (fine moved : Bool) (r : StageRecord) :
    ∀ x ∈ (decideCheckpoint fine moved r).2, ∃ item, x = Signal.checkpoint item := by
  unfold decideCheckpoint
  split <;> simp [checkpointStage]

/-- Step 3 keeps the state. -/
@[simp] theorem decideCheckpoint_state (fine moved : Bool) (r : StageRecord) :
    (decideCheckpoint fine moved r).1.state = r.state := by
  unfold decideCheckpoint checkpointStage
  split <;> rfl

/-- The unsaved flag is all that `markUnsaved` touches. -/
@[simp] theorem markUnsaved_state (before r : StageRecord) : (markUnsaved before r).state = r.state := by
  unfold markUnsaved
  split <;> rfl

/-- The clearing is delivered exactly when Missing ends. -/
theorem mem_clearingDelivery (before after : StageRecord) (x : Signal) :
    x ∈ clearingDelivery before after ↔ x = .filterMissing false ∧ before.state = .missing ∧ after.state ≠ .missing := by
  unfold clearingDelivery
  split <;> simp_all

/-- Step 1 delivers nothing but the setting of Missing, its notice first. -/
theorem detectMissing_deliveries (cls : FilterClass) (s : Nat) (dp : Option Nat) (r : StageRecord) :
    (detectMissing cls s dp r).2 =
      if r.state ≠ .missing ∧ (detectMissing cls s dp r).1.state = .missing then
        [.notice .filterMissing (some 2#8), .filterMissing true]
      else [] := by
  unfold detectMissing
  repeat' split
  all_goals simp_all

end Sys2Proof.Machine
end

