-- ==== Sys2Proof/Laws/Frames.lean ====
section
/-! SUPPORT. The frames of the two lines: their lengths and first octets, what beginning and ending one on the zone line
leaves as it was, and that the transmitter of the panel link takes the time of the octets of its frame. -/
namespace Sys2Proof.Machine

/-! ### Lengths and leads -/

@[simp] theorem withCheck_length (body : List Byte) : (withCheck body).length = body.length + 2 := by
  simp [withCheck, octets16]

@[simp] theorem pollFrame_length (address : Nat) : (pollFrame address).length = 4 := by simp [pollFrame]

/-- The lead with which a Poll begins is the first octet of its frame (Table 11-9). -/
@[simp] theorem pollFrame_lead (address : Nat) : (pollFrame address).head? = some 0x70#8 := by simp [pollFrame, withCheck]

@[simp] theorem messageFrame_length (address : Byte) (data : List Byte) :
    (messageFrame address data).length = 5 + data.length := by
  simp [messageFrame]; omega

/-- The lead with which a Node Message begins is the first octet of its frame (Table 11-9). -/
@[simp] theorem messageFrame_lead (address : Byte) (data : List Byte) :
    (messageFrame address data).head? = some 0x74#8 := by
  simp [messageFrame, withCheck]

/-- An upward frame has 6 octets beside its payload (Table 11-4). -/
@[simp] theorem frameOctets_length (f : Frame) : (frameOctets f).length = 6 + f.payload.length := by
  simp [frameOctets]; omega

/-! ### The zone line's transmitter (R1, R16) -/

variable (lead : Byte) (frame : List Byte) (iu : Intake)

@[simp] theorem beginFrame_sending : (beginFrame lead frame iu).sending = frame := rfl
@[simp] theorem beginFrame_onWire :
    (beginFrame lead frame iu).onWire = [corrected iu.polarity lead] := rfl
@[simp] theorem beginFrame_phase : (beginFrame lead frame iu).phase = iu.phase := rfl
@[simp] theorem beginFrame_nodes : (beginFrame lead frame iu).nodes = iu.nodes := rfl
@[simp] theorem beginFrame_down : (beginFrame lead frame iu).down = iu.down := rfl
@[simp] theorem beginFrame_polarity : (beginFrame lead frame iu).polarity = iu.polarity := rfl
@[simp] theorem beginFrame_timeBase : (beginFrame lead frame iu).timeBase = iu.timeBase := rfl
@[simp] theorem endFrame_sending : (endFrame iu).sending = [] := rfl
@[simp] theorem endFrame_onWire : (endFrame iu).onWire = [] := rfl
@[simp] theorem endFrame_phase : (endFrame iu).phase = iu.phase := rfl
@[simp] theorem endFrame_nodes : (endFrame iu).nodes = iu.nodes := rfl
@[simp] theorem endFrame_down : (endFrame iu).down = iu.down := rfl
@[simp] theorem endFrame_polarity : (endFrame iu).polarity = iu.polarity := rfl
@[simp] theorem endFrame_timeBase : (endFrame iu).timeBase = iu.timeBase := rfl

/-- The octets that have begun come first among those the line carries, as they left the pin (R16). -/
theorem onWire_prefix_lineOctets : iu.onWire <+: lineOctets iu := ⟨_, rfl⟩

/-- A change of the polarity between two octets reaches the octets that have not begun, and no other (R16). -/
theorem lineOctets_of_polarity (p : Polarity) :
    lineOctets { iu with polarity := p }
      = iu.onWire ++ (iu.sending.drop iu.onWire.length).map (corrected p) := rfl

/-! ### The panel link's transmitter (R171) -/

/-- An idle transmitter begins the frame at the front (R171). -/
theorem startSending_idle (pl : Panel) (f : Frame) (rest : List Frame) (hs : pl.sending = none)
    (hu : pl.upward = f :: rest) :
    startSending pl = { pl with upward := rest, sending := some ⟨f, panelLinkTime (6 + f.payload.length)⟩ } := by
  simp [startSending, hs, hu]

/-- A busy transmitter, or an empty queue, begins nothing (R171). -/
theorem startSending_waits (pl : Panel) (h : pl.sending ≠ none ∨ pl.upward = []) : startSending pl = pl := by
  unfold startSending
  split
  · simp_all
  · rfl

end Sys2Proof.Machine
end

