-- ==== Sys2Proof/Laws/Line.lean ====
section
/-! SUPPORT. How a line that has become free is used (R5, R21): what the start of a cycle, the start of a Node Message and
the use of the free line do, each said once, so that no proof unfolds them. -/
namespace Sys2Proof.Machine

/-- A cycle over a poll list with an entry begins with the Poll of that entry. -/
theorem startCycle_cons (ms : Nat) (iu : Intake) (e : PollEntry) (rest : List PollEntry) (h : iu.pollList = e :: rest) :
    startCycle ms iu = { iu with
      lastStart := some iu.timeBase, nextStart := some (after iu.timeBase ms), startDue := false
      phase := .poll 0 (zoneLineTime 4), sending := pollFrame e.address, onWire := [corrected iu.polarity 0x70#8] } := by
  unfold startCycle; simp only [h]; rfl

/-- A cycle over an empty poll list ends at once. -/
theorem startCycle_nil (ms : Nat) (iu : Intake) (h : iu.pollList = []) :
    startCycle ms iu = { iu with
      lastStart := some iu.timeBase, nextStart := some (after iu.timeBase ms), startDue := false
      snapshot := iu.live, cycleNumber := iu.cycleNumber + 1#16, phase := .idle, sending := [], onWire := [] } := by
  unfold startCycle; simp only [h]; rfl

theorem startMessage_cons (iu : Intake) (m : NodeMessage) (rest : List NodeMessage) (h : iu.down = m :: rest) :
    startMessage iu = { iu with
      phase := .message (zoneLineTime (messageFrame m.address m.data).length)
      sending := messageFrame m.address m.data, onWire := [corrected iu.polarity 0x74#8] } := by
  unfold startMessage; simp only [h]; rfl

theorem startMessage_nil (iu : Intake) (h : iu.down = []) : startMessage iu = iu := by
  unfold startMessage; simp only [h]

/-- A line that is not free is left as it is. -/
theorem useFreeLine_busy (interval : Option Nat) (iu : Intake) (h : iu.phase ≠ .idle) : useFreeLine interval iu = iu := by
  unfold useFreeLine; rw [if_neg h]

/-- A cycle that is owed where no cycles run holds the line. -/
theorem useFreeLine_owed_none (iu : Intake) (h : iu.phase = .idle) (due : iu.startDue = true) : useFreeLine none iu = iu := by
  unfold useFreeLine; rw [if_pos h]; simp only [due]; rw [if_neg (by simp)]

/-- A cycle that is owed takes the free line. -/
theorem useFreeLine_owed_cons (ms : Nat) (iu : Intake) (e : PollEntry) (rest : List PollEntry) (h : iu.phase = .idle)
    (due : iu.startDue = true) (list : iu.pollList = e :: rest) : useFreeLine (some ms) iu = startCycle ms iu := by
  unfold useFreeLine; rw [if_pos h]; simp only [due]; rw [if_neg (by rw [startCycle_cons _ _ _ _ list]; simp)]

/-- An owed cycle over an empty poll list leaves the line to a waiting Node Message. -/
theorem useFreeLine_owed_nil (ms : Nat) (iu : Intake) (h : iu.phase = .idle) (due : iu.startDue = true)
    (list : iu.pollList = []) : useFreeLine (some ms) iu = startMessage (startCycle ms iu) := by
  unfold useFreeLine; rw [if_pos h]; simp only [due]; rw [if_pos (by rw [startCycle_nil _ _ list]; exact ⟨rfl, rfl⟩)]

/-- With no cycle owed a waiting Node Message takes the free line. -/
theorem useFreeLine_free (interval : Option Nat) (iu : Intake) (h : iu.phase = .idle) (due : iu.startDue = false) :
    useFreeLine interval iu = startMessage iu := by
  unfold useFreeLine; rw [if_pos h]; simp only [due]
  cases interval <;> exact if_pos ⟨h, trivial⟩

end Sys2Proof.Machine
end

