-- ==== Sys2Proof/Laws/Octets.lean ====
section
/-! SUPPORT. Octets and fields: a field read from the octets it was laid out in is the field, and what the decoders of codes
answer for the codes. -/
namespace Sys2Proof.Machine

@[simp] theorem half_hi_lo (x : Half) : half (hi x) (lo x) = x := by
  apply BitVec.eq_of_getLsbD_eq
  intro i h
  simp only [half, hi, lo, BitVec.getLsbD_append, BitVec.getLsbD_extractLsb']
  grind

@[simp] theorem word_octets (x : Word) :
    word (x.extractLsb' 24 8) (x.extractLsb' 16 8) (x.extractLsb' 8 8) (x.extractLsb' 0 8) = x := by
  apply BitVec.eq_of_getLsbD_eq
  intro i h
  simp only [word, BitVec.getLsbD_append, BitVec.getLsbD_extractLsb']
  grind

@[simp] theorem triple_octets (x : BitVec 24) :
    triple (x.extractLsb' 16 8) (x.extractLsb' 8 8) (x.extractLsb' 0 8) = x := by
  apply BitVec.eq_of_getLsbD_eq
  intro i h
  simp only [triple, BitVec.getLsbD_append, BitVec.getLsbD_extractLsb']
  grind

/-- The check register after one data bit (R2 step 3). -/
theorem checkBit_eq (r : Half) (b : Bool) :
    checkBit r b = if r.getLsbD 15 = b then r <<< 1 else (r <<< 1) ^^^ 0x1021#16 := by
  unfold checkBit
  rw [show r.msb = r.getLsbD 15 from BitVec.msb_eq_getLsbD_last r]
  generalize r.getLsbD 15 = x
  generalize r <<< 1 = y
  cases x <;> cases b <;> rfl

/-- The check over one octet more (R2 step 2). -/
theorem checkOf_concat (octets : List Byte) (o : Byte) : checkOf (octets ++ [o]) = checkOctet (checkOf octets) o := by
  unfold checkOf
  rw [List.foldl_append]
  rfl

@[simp] theorem octets16_length (x : Half) : (octets16 x).length = 2 := rfl
@[simp] theorem octets32_length (x : Word) : (octets32 x).length = 4 := rfl
@[simp] theorem nat16_length (n : Nat) : (nat16 n).length = 2 := rfl
@[simp] theorem nat32_length (n : Nat) : (nat32 n).length = 4 := rfl

@[simp] theorem boolOf_boolCode (b : Bool) : boolOf (boolCode b) = some b := by cases b <;> decide
@[simp] theorem modeOf_modeCode (m : UnitMode) : modeOf (modeCode m) = some m := by cases m <;> decide
@[simp] theorem sourceOf_sourceCode (x : ServiceSource) : sourceOf (sourceCode x) = some x := by cases x <;> decide
@[simp] theorem formOf_formCode (x : NodeForm) : formOf (formCode x) = some x := by cases x <;> decide
@[simp] theorem polarityOf_polarityCode (x : PolaritySetting) : polarityOf (polarityCode x) = some x := by
  cases x <;> decide

/-! ### Fields by their place -/

@[simp] theorem byteAt_zero (x : Byte) (l : List Byte) : byteAt 0 (x :: l) = x := rfl
@[simp] theorem byteAt_succ (k : Nat) (x : Byte) (l : List Byte) : byteAt (k + 1) (x :: l) = byteAt k l := rfl
@[simp] theorem halfAt_zero (x y : Byte) (l : List Byte) : halfAt 0 (x :: y :: l) = half x y := rfl
@[simp] theorem halfAt_succ (k : Nat) (x : Byte) (l : List Byte) : halfAt (k + 1) (x :: l) = halfAt k l := rfl
@[simp] theorem numAt_zero (x y : Byte) (l : List Byte) : numAt 0 (x :: y :: l) = (half x y).toNat := rfl
@[simp] theorem numAt_succ (k : Nat) (x : Byte) (l : List Byte) : numAt (k + 1) (x :: l) = numAt k l := rfl
@[simp] theorem wordAt_zero (a b c d : Byte) (l : List Byte) : wordAt 0 (a :: b :: c :: d :: l) = word a b c d := rfl
@[simp] theorem wordAt_succ (k : Nat) (x : Byte) (l : List Byte) : wordAt (k + 1) (x :: l) = wordAt k l := rfl

/-- Octet pairs laid out one after another are read back. -/
theorem pairs_flatMap (l : List (Byte × Byte)) : pairs (l.flatMap fun e => [e.1, e.2]) = l := by
  induction l with
  | nil => rfl
  | cons e l ih => simp only [List.flatMap_cons, List.cons_append, List.nil_append, pairs, ih]

/-- 16-bit fields laid out one after another are read back. -/
theorem halves_flatMap (l : List Half) : halves (l.flatMap octets16) = l := by
  induction l with
  | nil => rfl
  | cons x l ih => simp [octets16, halves] at ih ⊢; exact ih

theorem length_flatMap_octets16 (l : List Half) : (l.flatMap octets16).length = 2 * l.length := by
  induction l with
  | nil => rfl
  | cons x l ih => simp only [List.flatMap_cons, List.length_append, ih, octets16_length, List.length_cons]; omega

theorem length_flatMap_pair (l : List (Byte × Byte)) : (l.flatMap fun e => [e.1, e.2]).length = 2 * l.length := by
  induction l with
  | nil => rfl
  | cons x l ih => simp only [List.flatMap_cons, List.length_append, ih, List.length_cons, List.length_nil]; omega

theorem sixOf_eq (o : Byte) (h : o.toNat < 6) : sixOf o = some ⟨o.toNat, h⟩ := by simp [sixOf, h]
theorem sixOf_none (o : Byte) (h : 6 ≤ o.toNat) : sixOf o = none := by simp [sixOf]; omega
theorem quadOf_eq (o : Byte) (h : o.toNat < 4) : quadOf o = some ⟨o.toNat, h⟩ := by simp [quadOf, h]
theorem quadOf_none (o : Byte) (h : 4 ≤ o.toNat) : quadOf o = none := by simp [quadOf]; omega

/-- The numbers of the notice kinds differ (R173). -/
theorem noticeCode_injective (a b : NoticeKind) (h : noticeCode a = noticeCode b) : a = b := by
  cases a <;> cases b <;> simp [noticeCode] at h <;> rfl

end Sys2Proof.Machine
end

