-- ==== Sys2Proof/Laws/Settle.lean ====
section
/-! SUPPORT. The chain of deliveries: how to carry a property of states through it, and what a single delivery to the
Panel Link or to the store does. -/
namespace Sys2Proof.Machine

@[simp] theorem settleChain_nil (n : Nat) (s : State) : settleChain n [] s = s := by cases n <;> rfl

theorem settleChain_cons (n : Nat) (sig : Signal) (rest : List Signal) (s : State) :
    settleChain (n + 1) (sig :: rest) s = settleChain n ((route sig s).2 ++ rest) (route sig s).1 := rfl

/-- A property `P` of states goes through a chain when every delivery of a kind `Q` keeps it and delivers only deliveries
of that kind. -/
theorem settleChain_keeps {P : State → Prop} {Q : Signal → Prop}
    (keep : ∀ sig s, Q sig → P s → P (route sig s).1 ∧ ∀ x ∈ (route sig s).2, Q x)
    (n : Nat) (signals : List Signal) (s : State) (hq : ∀ x ∈ signals, Q x) (hp : P s) :
    P (settleChain n signals s) := by
  induction n generalizing signals s with
  | zero => exact hp
  | succ n ih =>
    match signals with
    | [] => exact hp
    | sig :: rest =>
      have h := keep sig s (hq sig (List.mem_cons_self ..)) hp
      refine ih _ _ (fun x hx => ?_) h.1
      rcases List.mem_append.mp hx with hx | hx
      · exact h.2 x hx
      · exact hq x (List.mem_cons_of_mem _ hx)

/-- A property of states that every delivery keeps goes through `settle`. -/
theorem settle_keeps {P : State → Prop} (keep : ∀ sig s, P s → P (route sig s).1) (signals : List Signal) (s : State)
    (h : P s) : P (settle signals s) :=
  settleChain_keeps (Q := fun _ => True) (fun sig s _ hp => ⟨keep sig s hp, fun _ _ => trivial⟩) _ signals s
    (fun _ _ => trivial) h

/-- A property of states that every delivery of a kind keeps goes through `settle`. -/
theorem settle_keeps_of {P : State → Prop} {Q : Signal → Prop}
    (keep : ∀ sig s, Q sig → P s → P (route sig s).1 ∧ ∀ x ∈ (route sig s).2, Q x) (signals : List Signal) (s : State)
    (hq : ∀ x ∈ signals, Q x) (h : P s) : P (settle signals s) :=
  settleChain_keeps keep _ signals s hq h

@[simp] theorem settle_nil (s : State) : settle [] s = s := rfl

@[simp] theorem settle_notice (kind : NoticeKind) (subject : Option Byte) (s : State) :
    settle [.notice kind subject] s = { s with pl := post kind subject s.pl } := by
  simp only [settle, chainBound]
  rw [show (4000 : Nat) = 3999 + 1 from rfl, settleChain_cons]
  simp [route]

@[simp] theorem settle_checkpoint (item : StoreItem) (s : State) :
    settle [.checkpoint item] s = { s with nvs := handItem item s.nvs } := by
  simp only [settle, chainBound]
  rw [show (4000 : Nat) = 3999 + 1 from rfl, settleChain_cons]
  simp [route]

@[simp] theorem settle_relay (payload : List Byte) (s : State) :
    settle [.relay payload] s = { s with pl := placeRelay payload s.pl } := by
  simp only [settle, chainBound]
  rw [show (4000 : Nat) = 3999 + 1 from rfl, settleChain_cons]
  simp [route]

end Sys2Proof.Machine
end

