-- ==== Sys2Proof/Laws/Requests.lean ====
section
/-! SUPPORT. The request queue: what the arrival of a Request does in the three cases of R167 and R168, and that a refused
request changes nothing. -/
namespace Sys2Proof.Machine

/-- A Request that finds the link ready is taken at once (R168). -/
theorem receiveRequest_ready (tag : Byte) (payload : List Byte) (s : State) (h : linkReady s.pl = true) :
    receiveRequest tag payload s = takeRequest ⟨tag, payload⟩ s := by
  simp only [linkReady, Bool.and_eq_true, List.isEmpty_iff] at h
  obtain ⟨he, hc⟩ := h
  have hs : { s with pl := { s.pl with requests := [] } } = s := by
    obtain ⟨iu, dmu, bd, dp, du, fs, ds, tm, mc, nvs, pl, f, p⟩ := s
    obtain ⟨a, b, c⟩ := pl
    simp_all
  have hc' : canTake { s.pl with requests := [⟨tag, payload⟩] } = true := hc
  have hc'' : canTake { s.pl with requests := s.pl.requests ++ [⟨tag, payload⟩] } = true := hc
  simp [receiveRequest, takeAll, queueRequest, he, takeRequests, hc', hs]

/-- A Request with a number of Table 11-2 and the length it fixes goes to its owner (R168 step 4). -/
theorem takeRequest_owner (tag number : Byte) (fields : List Byte) (kind : RequestKind) (s : State)
    (hk : requestOf number = some kind) (hl : lengthHolds kind (number :: fields) = true) :
    takeRequest ⟨tag, number :: fields⟩ s = replyWith tag number (ownerAnswer kind fields s).status
      (ownerAnswer kind fields s).data (ownerAnswer kind fields s).state := by
  simp [takeRequest, answer, hk, hl, replyNumber]

/-- A Request of another length than Table 11-2 fixes (R168 step 3). -/
theorem takeRequest_badLength (tag number : Byte) (fields : List Byte) (kind : RequestKind) (s : State)
    (hk : requestOf number = some kind) (hl : lengthHolds kind (number :: fields) = false) :
    takeRequest ⟨tag, number :: fields⟩ s = replyWith tag number .badLength [] s := by
  simp [takeRequest, answer, hk, hl, replyNumber, refuse]

/-- A Request that finds four waiting is dropped (R167); those that wait are taken if they can be. -/
theorem receiveRequest_dropped (tag : Byte) (payload : List Byte) (s : State) (h : 4 ≤ s.pl.requests.length) :
    receiveRequest tag payload s
      = takeAll { s with pl := { s.pl with requestsDropped := s.pl.requestsDropped + 1#16, overrun := true } } := by
  simp [receiveRequest, queueRequest, Nat.not_lt.mpr h]

/-- Nothing is taken while the conditions of R168 do not hold. -/
theorem takeAll_blocked (s : State) (h : canTake s.pl = false) : takeAll s = s := by
  unfold takeAll
  cases hr : s.pl.requests with
  | nil => rfl
  | cons r rest => simp [takeRequests, hr, h]

end Sys2Proof.Machine
end

