-- ==== Sys2Proof/Laws/State.lean ====
section
/-! SUPPORT. The small laws of the state: reading after replacing one of six or four, and the fields that the named updates
of the state leave as they are. -/
namespace Sys2Proof

@[simp] theorem Six.get_set_same {α : Type} (v : Six α) (i : Fin 6) (x : α) : (v.set i x).get i = x := by
  match i with
  | 0 | 1 | 2 | 3 | 4 | 5 => rfl

theorem Six.get_set_other {α : Type} (v : Six α) (i j : Fin 6) (x : α) (h : j ≠ i) : (v.set i x).get j = v.get j := by
  match i, j with
  | 0, 0 | 1, 1 | 2, 2 | 3, 3 | 4, 4 | 5, 5 => exact absurd rfl h
  | 0, 1 | 0, 2 | 0, 3 | 0, 4 | 0, 5 | 1, 0 | 1, 2 | 1, 3 | 1, 4 | 1, 5 | 2, 0 | 2, 1 | 2, 3 | 2, 4 | 2, 5
  | 3, 0 | 3, 1 | 3, 2 | 3, 4 | 3, 5 | 4, 0 | 4, 1 | 4, 2 | 4, 3 | 4, 5 | 5, 0 | 5, 1 | 5, 2 | 5, 3 | 5, 4 => rfl

theorem Six.get_set {α : Type} (v : Six α) (i j : Fin 6) (x : α) :
    (v.set i x).get j = if j = i then x else v.get j := by
  by_cases h : j = i
  · simp [h]
  · simp [h, Six.get_set_other v i j x h]

@[simp] theorem Six.get_map {α β : Type} (f : α → β) (v : Six α) (i : Fin 6) : (v.map f).get i = f (v.get i) := by
  match i with
  | 0 | 1 | 2 | 3 | 4 | 5 => rfl

@[simp] theorem Six.get_tabulate {α : Type} (f : Fin 6 → α) (i : Fin 6) : (Six.tabulate f).get i = f i := by
  match i with
  | 0 | 1 | 2 | 3 | 4 | 5 => rfl

@[simp] theorem Six.get_all {α : Type} (x : α) (i : Fin 6) : (Six.all x).get i = x := by
  match i with
  | 0 | 1 | 2 | 3 | 4 | 5 => rfl

@[ext] theorem Six.ext_get {α : Type} (v w : Six α) (h : ∀ i, v.get i = w.get i) : v = w := by
  obtain ⟨a, b, c, d, e, f⟩ := v
  obtain ⟨a', b', c', d', e', f'⟩ := w
  have h0 := h 0; have h1 := h 1; have h2 := h 2; have h3 := h 3; have h4 := h 4; have h5 := h 5
  simp only [Six.get] at h0 h1 h2 h3 h4 h5
  simp [h0, h1, h2, h3, h4, h5]

@[simp] theorem Quad.get_set_same {α : Type} (v : Quad α) (i : Fin 4) (x : α) : (v.set i x).get i = x := by
  match i with
  | 0 | 1 | 2 | 3 => rfl

theorem Quad.get_set_other {α : Type} (v : Quad α) (i j : Fin 4) (x : α) (h : j ≠ i) :
    (v.set i x).get j = v.get j := by
  match i, j with
  | 0, 0 | 1, 1 | 2, 2 | 3, 3 => exact absurd rfl h
  | 0, 1 | 0, 2 | 0, 3 | 1, 0 | 1, 2 | 1, 3 | 2, 0 | 2, 1 | 2, 3 | 3, 0 | 3, 1 | 3, 2 => rfl

namespace Machine

/-! Placing a Reply touches the panel link alone. -/

variable (tag number : Byte) (status : Status) (data : List Byte) (s : State)

@[simp] theorem replyWith_iu : (replyWith tag number status data s).iu = s.iu := rfl
@[simp] theorem replyWith_dmu : (replyWith tag number status data s).dmu = s.dmu := rfl
@[simp] theorem replyWith_bd : (replyWith tag number status data s).bd = s.bd := rfl
@[simp] theorem replyWith_dp : (replyWith tag number status data s).dp = s.dp := rfl
@[simp] theorem replyWith_du : (replyWith tag number status data s).du = s.du := rfl
@[simp] theorem replyWith_fs : (replyWith tag number status data s).fs = s.fs := rfl
@[simp] theorem replyWith_ds : (replyWith tag number status data s).ds = s.ds := rfl
@[simp] theorem replyWith_tm : (replyWith tag number status data s).tm = s.tm := rfl
@[simp] theorem replyWith_mc : (replyWith tag number status data s).mc = s.mc := rfl
@[simp] theorem replyWith_nvs : (replyWith tag number status data s).nvs = s.nvs := rfl
@[simp] theorem replyWith_freeUsed : (replyWith tag number status data s).freeUsed = s.freeUsed := rfl
@[simp] theorem replyWith_pending : (replyWith tag number status data s).pending = s.pending := rfl
@[simp] theorem replyWith_pl : (replyWith tag number status data s).pl = placeReply tag number status data s.pl := rfl

/-! A millisecond of the clock touches neither the tables nor what is stored. -/

@[simp] theorem advance_dmu : (advance s).dmu = s.dmu := rfl
@[simp] theorem advance_du : (advance s).du = s.du := rfl
@[simp] theorem advance_fs : (advance s).fs = s.fs := rfl
@[simp] theorem advance_mc : (advance s).mc = s.mc := rfl
@[simp] theorem advance_cells : (advance s).nvs.cells = s.nvs.cells := rfl
@[simp] theorem advance_queue : (advance s).nvs.queue = s.nvs.queue := rfl
@[simp] theorem advance_nodes : (advance s).iu.nodes = s.iu.nodes := rfl
@[simp] theorem advance_timeBase : (advance s).iu.timeBase = s.iu.timeBase + 1#32 := rfl
@[simp] theorem advance_applied : (advance s).bd.applied = s.bd.applied := rfl
@[simp] theorem advance_freeUsed : (advance s).freeUsed = s.freeUsed := rfl
@[simp] theorem advance_pending : (advance s).pending = s.pending := rfl

/-! Choosing among due events counts a free value and touches nothing else. -/

theorem afterChoice_eq (others : List Instr) :
    afterChoice others s = { s with freeUsed := s.freeUsed + if others = [] then 0 else 1 } := by
  cases others <;> simp [afterChoice]

end Machine

end Sys2Proof
end

