-- ==== Sys2Proof/Laws/Store.lean ====
section
/-! SUPPORT. The store's octets: what a write leaves at every address, and that every operation of the store keeps the
canonical form. -/
namespace Sys2Proof.Machine

theorem Memory.wfFrom_mono {low low' : Nat} {cells : List Host.Cell} (h : low' ≤ low)
    (wf : Memory.wfFrom low cells = true) : Memory.wfFrom low' cells = true := by
  cases cells with
  | nil => rfl
  | cons c rest =>
    obtain ⟨a, v⟩ := c
    simp only [Memory.wfFrom, Bool.and_eq_true, decide_eq_true_eq] at wf ⊢
    exact ⟨⟨by omega, wf.1.2⟩, wf.2⟩

/-- Below the lowest address a canonical list may hold, every octet reads as erased. -/
theorem Memory.read_below {low a : Nat} {cells : List Host.Cell} (wf : Memory.wfFrom low cells = true) (h : a < low) :
    Memory.read cells a = Memory.erased := by
  induction cells generalizing low with
  | nil => rfl
  | cons c rest ih =>
    obtain ⟨b, v⟩ := c
    simp only [Memory.wfFrom, Bool.and_eq_true, decide_eq_true_eq] at wf
    simp only [Memory.read]
    rw [if_neg (by omega)]
    exact ih wf.2 (by omega)

theorem Memory.wfFrom_write {low a : Nat} {v : Byte} {cells : List Host.Cell} (wf : Memory.wfFrom low cells = true)
    (h : low ≤ a) : Memory.wfFrom low (Memory.write cells a v) = true := by
  induction cells generalizing low with
  | nil =>
    simp only [Memory.write]
    split <;> simp_all [Memory.wfFrom]
  | cons c rest ih =>
    obtain ⟨b, w⟩ := c
    have wf' := wf
    simp only [Memory.wfFrom, Bool.and_eq_true, decide_eq_true_eq] at wf
    simp only [Memory.write]
    split
    · split
      · exact wf'
      · simp only [Memory.wfFrom, Bool.and_eq_true, decide_eq_true_eq]
        refine ⟨⟨h, by simpa using ‹¬v = Memory.erased›⟩, ⟨by omega, wf.1.2⟩, wf.2⟩
    · split
      · split
        · exact Memory.wfFrom_mono (by omega) wf.2
        · simp only [Memory.wfFrom, Bool.and_eq_true, decide_eq_true_eq]
          subst_vars
          exact ⟨⟨h, by simpa using ‹¬v = Memory.erased›⟩, wf.2⟩
      · simp only [Memory.wfFrom, Bool.and_eq_true, decide_eq_true_eq]
        exact ⟨wf.1, ih wf.2 (by omega)⟩

/-- A write keeps the canonical form. -/
theorem Memory.wf_write {a : Nat} {v : Byte} {cells : List Host.Cell} (wf : Memory.wf cells = true) :
    Memory.wf (Memory.write cells a v) = true :=
  Memory.wfFrom_write wf (Nat.zero_le a)

theorem Memory.read_writeFrom {low a b : Nat} {v : Byte} {cells : List Host.Cell}
    (wf : Memory.wfFrom low cells = true) :
    Memory.read (Memory.write cells a v) b = if b = a then v else Memory.read cells b := by
  induction cells generalizing low with
  | nil => simp only [Memory.write]; split <;> simp_all [Memory.read]
  | cons c rest ih =>
    obtain ⟨k, w⟩ := c
    have wf' := wf
    simp only [Memory.wfFrom, Bool.and_eq_true, decide_eq_true_eq] at wf
    simp only [Memory.write]
    split
    · split
      · split
        · rename_i h1 h2 h3
          subst h3 h2
          exact Memory.read_below (low := k) (by
            simp only [Memory.wfFrom, Bool.and_eq_true, decide_eq_true_eq]; exact ⟨⟨le_refl _, wf.1.2⟩, wf.2⟩) h1
        · rfl
      · simp only [Memory.read]
    · split
      · rename_i h1 h2
        subst h2
        split
        · split
          · rename_i h3 h4
            subst h4 h3
            exact Memory.read_below wf.2 (by omega)
          · simp [Memory.read, *]
        · simp only [Memory.read]
          split <;> simp_all
      · simp only [Memory.read]
        rw [ih wf.2]
        grind

/-- What an octet reads as after a write: the octet written at its address, what it read as before elsewhere. -/
theorem Memory.read_write {a b : Nat} {v : Byte} {cells : List Host.Cell} (wf : Memory.wf cells = true) :
    Memory.read (Memory.write cells a v) b = if b = a then v else Memory.read cells b :=
  Memory.read_writeFrom wf

/-- A run of writes keeps the canonical form. -/
theorem Memory.wf_writeAll {octets : List Byte} {a : Nat} {cells : List Host.Cell} (wf : Memory.wf cells = true) :
    Memory.wf (Memory.writeAll cells a octets) = true := by
  induction octets generalizing a cells with
  | nil => exact wf
  | cons v rest ih => exact ih (Memory.wf_write wf)

/-- What an octet reads as after a run of writes. -/
theorem Memory.read_writeAll {octets : List Byte} {a b : Nat} {cells : List Host.Cell} (wf : Memory.wf cells = true) :
    Memory.read (Memory.writeAll cells a octets) b
      = if a ≤ b ∧ b < a + octets.length then octets.getD (b - a) 0#8 else Memory.read cells b := by
  induction octets generalizing a cells with
  | nil => simp [Memory.writeAll]
  | cons v rest ih =>
    simp only [Memory.writeAll, ih (Memory.wf_write wf), Memory.read_write wf, List.length_cons]
    by_cases h1 : b = a
    · subst h1; simp
    · by_cases h2 : a + 1 ≤ b ∧ b < a + 1 + rest.length
      · rw [if_pos h2, if_pos (by omega)]
        obtain ⟨k, hk⟩ : ∃ k, b - a = k + 1 := ⟨b - a - 1, by omega⟩
        rw [hk, List.getD_cons_succ]
        congr 1
        omega
      · rw [if_neg h2, if_neg h1, if_neg (by omega)]

/-- Beginning a write keeps the canonical form. -/
theorem wf_beginWrite {nvs : Store} (wf : Memory.wf nvs.cells = true) : Memory.wf (beginWrite nvs).cells = true := by
  unfold beginWrite
  split
  · exact Memory.wf_writeAll wf
  · exact wf

/-- Handing an item to the store keeps the canonical form. -/
theorem wf_handItem {item : StoreItem} {nvs : Store} (wf : Memory.wf nvs.cells = true) :
    Memory.wf (handItem item nvs).cells = true :=
  wf_beginWrite wf

/-- The completion of a word keeps the canonical form. -/
theorem wf_wordDone {nvs : Store} (wf : Memory.wf nvs.cells = true) : Memory.wf (wordDone nvs).cells = true := by
  unfold wordDone
  split
  · exact wf
  · dsimp only
    split
    · exact wf_beginWrite (Memory.wf_writeAll wf)
    · exact Memory.wf_writeAll wf

/-- The reset store has the canonical form. -/
theorem wf_reset : Memory.wf State.reset.nvs.cells = true := rfl

/-- Everything that queueing an item does (R162): no waiting item has a target twice when none had before, and the queue
holds the item. -/
theorem mem_queueItem (item : StoreItem) (queue : List StoreItem) : item ∈ queueItem item queue := by
  induction queue with
  | nil => simp [queueItem]
  | cons x rest ih => simp only [queueItem]; split <;> simp_all

/-- Queueing an item gives the queue at most one place more (R162). -/
theorem length_queueItem (item : StoreItem) (queue : List StoreItem) :
    (queueItem item queue).length ≤ queue.length + 1 := by
  induction queue with
  | nil => simp [queueItem]
  | cons x rest ih => simp only [queueItem]; split <;> simp_all

end Sys2Proof.Machine
end

