-- ==== Sys2Proof/Tests/Slice0.lean ====
section
/-! SUPPORT. Tests: the manual's worked cases, each on one step or one function, with the expected values of the chapter
named; ill-formed commands; and for every statement with hypotheses the states and operands that meet them. -/
namespace Sys2Proof.Tests
open Sys2Proof Sys2Proof.Machine

-- One theorem at a time: a thread for each would take more memory than a check has.
set_option Elab.async false

/-- The next state of an outcome. -/
def nextOf : Host.Outcome State Fault Refusal → Option State
  | .next t => some t
  | _ => none

/-! ### Small states -/

/-- The reset state with the zone line in a phase. -/
def lineIn (p : LinePhase) : State := { State.reset with iu := { State.reset.iu with phase := p } }

/-- The reset state in a unit mode with a service source. -/
def modeIn (mode : UnitMode) (source : ServiceSource := .line) : State :=
  { State.reset with mc := { State.reset.mc with mode := mode, source := source } }

/-- The reset state with zone 0 as given. -/
def zoneIn (z : Zone) (mode : UnitMode := .run) : State :=
  { modeIn mode with dmu := { State.reset.dmu with zones := { State.reset.dmu.zones with z0 := z } } }

/-- A zone of node 1 with PM target 12, gain 16, RH target 500 and drying on, in a sample state with a PM2.5 and an RH. -/
def roomIn (sample : SampleState) (pm rh : Option Nat) : Zone :=
  { Zone.reset with
    entry := ⟨true, 1, 12, 16, 500, true⟩, sample := sample, pm25 := pm, rh := rh, lastAccept := some 0#32 }

/-- The reset state with damper 0 as given. -/
def damperIn (d : Damper) (mode : UnitMode := .run) : State :=
  { modeIn mode with dp := ⟨{ State.reset.dp.dampers with z0 := d }⟩ }

/-- A fitted damper of travel 1000 in a state at a position with a target and a share. -/
def bladeIn (state : DamperState) (position target : Option Nat) (share : Nat) : Damper :=
  { Damper.reset false with
    entry := ⟨true, 1000, 0, 0⟩, state := state, position := position, target := target, share := share }

/-- The reset state with the blower changed. -/
def blowerIn (state : BlowerState) (applied : Nat) : State :=
  { State.reset with bd := { State.reset.bd with state := state, applied := applied } }

/-- The reset state with the sequencer as given. -/
def dryingIn (ds : Sequencer) (mode : UnitMode := .run) : State := { modeIn mode with ds := ds }

/-- A sequencer in a state in Run whose start conditions hold, the duty held at 400. -/
def readySequencer (state : DsState) : Sequencer :=
  { Sequencer.reset with
    state := state, offLeft := none, call := true, tankBlocked := false, applied := 400, coil := some 140, mode := .run
    compressor := decide (state = .running) }

/-- The reset state with the tank as given. -/
def tankIn (tm : Tank) (mode : UnitMode := .run) : State := { modeIn mode with tm := tm }

/-- A tank at a level with its pump in a state. -/
def tankAt (level : TankLevel) (pump : PumpState) : Tank :=
  { State.reset.tm with level := level, pump := pump, blocked := false, origin := .level }

/-- The reset state with the panel link as given. -/
def linkIn (pl : Panel) : State := { State.reset with pl := pl }

/-- An upward queue of so many Replies. -/
def repliesOf (n : Nat) : List Frame := List.replicate n ⟨.reply, 0#8, [0x0B#8, 0#8]⟩

/-- The reset state with the store as given. -/
def storeIn (nvs : Store) : State := { State.reset with nvs := nvs }

/-! ### The manual's examples -/

/-- R2: the check of the nine octets 31h to 39h is 29B1h. -/
theorem test_check_of_r2 :
    checkOf [0x31#8, 0x32#8, 0x33#8, 0x34#8, 0x35#8, 0x36#8, 0x37#8, 0x38#8, 0x39#8] = 0x29B1#16 := by decide +kernel

/-- 00_scope 4.6: the high octet goes first. -/
theorem test_high_octet_first : octets16 0x0190#16 = [0x01#8, 0x90#8] ∧ octets32 0x01020304#32 = [1#8, 2#8, 3#8, 4#8] := by
  decide +kernel

/-- Section 1.12, entry 4: a duplicate clears the bad-window count and leaves node 4 Missing with one miss. -/
theorem test_cycle_duplicate :
    (let c := closePeriod Settings.defaults 0 true .duplicate { Intake.reset with
        pollList := [⟨4, .short⟩], badWindows := 2
        nodes := [{ NodeRecord.fresh 4 .short with state := .live, lastSequence := some 9#8, accepted := 791#32 }] }
     c.1.nodes.map (fun r => (r.state, r.misses)) = [(.missing, 1)] ∧ c.1.badWindows = 0 ∧ c.1.live.duplicate = 1#16) := by
  decide +kernel

/-- Section 1.12, entry 3: silence takes node 7 from two misses to Lost, and NodeLost is posted. -/
theorem test_cycle_silence :
    (let c := closePeriod Settings.defaults 0 false .noFrame { Intake.reset with
        pollList := [⟨7, .long⟩]
        nodes := [{ NodeRecord.fresh 7 .long with state := .missing, misses := 2 }] }
     c.1.nodes.map (fun r => (r.state, r.misses)) = [(.lost, 3)] ∧ c.1.badWindows = 0 ∧ c.1.live.timeout = 1#16
       ∧ Signal.notice .nodeLost (some 7#8) ∈ c.2) := by
  decide +kernel

/-- R16: a change to Inverted while a Poll of node 1 is in transmission leaves the octets that have begun as they left the pin
and complements the rest. -/
theorem test_polarity_within_a_poll :
    (let iu := polarityLoaded .auto .inverted { State.reset.iu with onWire := [0x70#8, 1#8] }
     (lineOctets iu).take 2 = [0x70#8, 1#8]
       ∧ (lineOctets iu).drop 2 = ((pollFrame 1).drop 2).map fun o => ~~~o) := by
  decide +kernel

/-- Section 2.10, update 1, zone 0 alone: PM2.5 38 gives demand 104, RH 548 an error of +48 and the drying call, and the
demanded duty is 150 + 104 × 850 ÷ 1000 = 238. -/
theorem test_demand_update :
    (let t := (route .demandUpdate (zoneIn (roomIn .fresh (some 38) (some 548)))).1.dmu
     t.zones.z0.d = 104 ∧ t.zones.z0.err = some 48 ∧ t.call = true ∧ t.demandedDuty = 238) := by
  decide +kernel

/-- Section 2.10, updates 1 and 2: the call starts an attempt, and the update that this sets off has the last word at every
receiver: D is 600 and the demanded duty 660. -/
theorem test_update_set_off_by_the_call :
    (let rooms : Demand := { State.reset.dmu with zones := { State.reset.dmu.zones with
        z0 := roomIn .fresh (some 38) (some 548)
        z1 := { roomIn .held (some 20) (some 610) with entry := ⟨true, 7, 15, 32, 550, true⟩ } } }
     let t := settle [.demandUpdate] { dryingIn { readySequencer .idle with call := false, applied := 238 } with dmu := rooms }
     t.dmu.largest = 600 ∧ t.mc.largest = 600 ∧ t.dmu.demandedDuty = 660 ∧ t.bd.staged = 660
       ∧ t.ds.state = .airflowWait ∧ t.ds.call = true) := by
  decide +kernel

/-- Section 2.8: opening 238 of travel 1200 is 285 steps. -/
theorem test_opening_of_a_demand :
    (route .demandUpdate { zoneIn (roomIn .fresh (some 38) none) with
      dp := ⟨{ State.reset.dp.dampers with z0 := { bladeIn .settled (some 0) (some 0) 0 with entry := ⟨true, 1200, 150, 300⟩ } }⟩
      }).1.dmu.zones.z0.target = some 285 := by
  decide +kernel

/-- Section 3.11: at applied duty 300 band 2 governs, and a duty of 657 above a target of 558 falls by 20. -/
theorem test_bands :
    rampStep (bandFor 280 defaultProfile) 660 280 = 300 ∧ rampStep (bandFor 300 defaultProfile) 660 300 = 310
      ∧ rampStep (bandFor 657 defaultProfile) 558 657 = 637 ∧ rampStep (bandFor 577 defaultProfile) 558 577 = 558 := by
  decide +kernel

/-- Section 3.11, the cut: 660 with shares 557 and 640 and a reduction of 540 is cut to 657, counted, and reported. -/
theorem test_cut :
    (let dampers : Six Damper := { State.reset.dp.dampers with
        z0 := bladeIn .settled (some 557) (some 557) 557
        z1 := { bladeIn .waiting (some 640) (some 100) 640 with pending := 540 } }
     let r := blowerTick (modeIn .run).mc dampers { Blower.reset 0 with applied := 660, staged := 558, state := .running }
     r.1.applied = 657 ∧ r.1.cuts = 1#16 ∧ r.1.state = .running ∧ Signal.limitMet 657 540 ∈ r.2) := by
  decide +kernel

/-- R54: with N = 2 and P = 2 a capture over 28,160 µs gives 2130 rpm. -/
theorem test_speed :
    (nextOf (exec (.tachEdge 28160) { State.reset with
        bd := { State.reset.bd with chain := ⟨true, 1, 0⟩, state := .running, applied := 600 } })).map (·.bd.speed)
      = some 2130 := by
  decide +kernel

/-- R58: a tick taken first lowers the duty from 160 to 130, and the expiry of the same instant still sets it to 0. -/
theorem test_stall_after_a_tick :
    (let ticked := (blowerTick (modeIn .run).mc { State.reset.dp.dampers with z0 := bladeIn .settled (some 500) (some 500) 500 }
        { Blower.reset 0 with applied := 160, state := .running, stallLeft := some 0 }).1
     ticked.applied = 130 ∧ (stallExpiry ticked).1.applied = 0 ∧ (stallExpiry ticked).1.state = .retryWait
       ∧ (stallExpiry ticked).1.retryCount = 1) := by
  decide +kernel

/-- Section 3.12 at 15450: the third stall is Fault with the DS told. -/
theorem test_third_stall :
    (nextOf (exec .stallTimerExpiry { blowerIn .running 180 with
        bd := { (blowerIn .running 180).bd with retryCount := 2, stallLeft := some 0 } })).map
      (fun t => (t.bd.state, t.bd.applied, t.bd.finish, t.ds.faulted)) = some (.fault, 0, .fault, true) := by
  decide +kernel

/-- R73: travel 1200, target 285 has opening 237 and position 669 has opening 557. -/
theorem test_openings : openingOfSteps 1200 285 = 237 ∧ openingOfSteps 1200 669 = 557 := by decide +kernel

/-- Section 4.10: damper 4 of travel 800 at 400 takes target 80, waits with reduction 400, and the report releases it to
share 100. -/
theorem test_waiting_and_release :
    (let d := takeTarget false 80 { bladeIn .settled (some 400) (some 400) 500 with entry := ⟨true, 800, 0, 0⟩ }
     d.state = .waiting ∧ d.pending = 400 ∧ d.covered = none) ∧
    (let d := (route (.limitMet 400 800) (damperIn { bladeIn .waiting (some 400) (some 80) 500 with
        entry := ⟨true, 800, 0, 0⟩, pending := 400, covered := some 400 })).1.dp.dampers.z0
     d.state = .moving ∧ d.share = 100 ∧ d.stepLeft = some 5) := by
  decide +kernel

/-- The classes and records of section 5.8. -/
def workedFilters : Filters where
  classes := ⟨builtInClass, ⟨60000, 600, 90, 250, 30, 24, 1800, 900⟩, builtInClass, builtInClass⟩
  factoryClasses := Quad.all builtInClass
  pre := { StageRecord.fromNothing with number := 1, dose := 5000000, remainder := 1250000000, life := 83 }
  fine := { StageRecord.fromNothing with dose := 20399988, held := 310, life := 849 }

/-- The fan curve of section 5.8 at the points it names. -/
def workedCurve : List Nat := [0, 65, 130, 195, 260, 325, 390, 455, 520, 575, 640, 705, 770, 835, 900, 965, 1030]

/-- Section 5.8: the dose computation of the reading. -/
theorem test_worked_dose :
    (let r := doseReading .run 2130 workedFilters 1002000#32 ⟨none, none, some 38, some 61, some 142, some 92, none⟩
        { Dose.reset workedCurve with previousStamp := some 1000000#32 }
     r.dose.airflow = some ⟨1002000#32, 2130, 548, 78, 505, 2000, false⟩
       ∧ (r.pre.dose, r.pre.remainder, r.pre.life) = (5000004, 788000000, 83)
       ∧ (r.fine.dose, r.fine.remainder, r.fine.held, r.fine.life) = (20400000, 2845900000, 325, 850)) := by
  decide +kernel

/-- Section 5.8: stage 2 becomes Due with FilterDue, stage 1 stays Fresh. -/
theorem test_worked_states :
    (let r := stageReading .run 2130 1002000#32 ⟨none, none, some 38, some 61, some 142, some 92, none⟩
        { Dose.reset workedCurve with previousStamp := some 1000000#32 } workedFilters
     r.2.1.fine.state = .due ∧ r.2.1.pre.state = .fresh ∧ Signal.notice .filterDue (some 2#8) ∈ r.2.2
       ∧ r.2.1.fine.checkpointLife = 850) := by
  decide +kernel

/-- Section 5.9: every clamp of the computation, and the wrap of the time base. -/
theorem test_worked_clamps :
    (let r := doseReading .service 4000
        { workedFilters with
          pre := { workedFilters.pre with dose := 5000004, remainder := 788000000 }
          fine := { workedFilters.fine with
            state := .worn, dose := 4294967000, remainder := 2845900000, held := 900, life := 1999 } }
        12704#32 ⟨none, none, some 1000, some 1000, some 1000, none, none⟩
        { Dose.reset (List.replicate 17 1500) with previousStamp := some 4294960000#32, gaps := 41#16 }
     r.dose.airflow = some ⟨12704#32, 4000, 1500, 800, 300, 10000, true⟩ ∧ r.dose.gaps = 42#16
       ∧ (r.pre.dose, r.pre.remainder, r.pre.life) = (5000004, 788000000, 83)
       ∧ (r.fine.dose, r.fine.remainder, r.fine.held, r.fine.life) = (4294967295, 445900000, 1999, 1999)) := by
  decide +kernel

/-- Section 6.8, reading F: the third absent reading makes stage 2 Missing, and the reading's capture stands. -/
theorem test_element_left_out :
    (let r := stageReading .run 2130 1002000#32 ⟨none, none, some 38, some 61, some 12, some 92, none⟩
        { Dose.reset workedCurve with previousStamp := some 1000000#32 }
        { workedFilters with fine := { workedFilters.fine with
            state := .due, dose := 20400060, held := 325, life := 850, checkpointLife := 850, absentCount := 2 } }
     r.2.1.fine.state = .missing ∧ r.2.1.fine.absentCount = 0 ∧ Signal.notice .filterMissing (some 2#8) ∈ r.2.2
       ∧ 20400060 < r.2.1.fine.dose) := by
  decide +kernel

/-- R109: the third reading of presence clears Missing; the notice of the state reached (act 3) stands ahead of the delivery to
the DMU (act 4). -/
theorem test_missing_clears_behind_its_notice :
    (let r := stageReading .run 2130 1002000#32 ⟨none, none, some 38, some 61, some 142, some 92, none⟩
        { Dose.reset workedCurve with previousStamp := some 1000000#32 }
        { workedFilters with fine := { workedFilters.fine with
            state := .missing, held := 325, life := 850, checkpointLife := 850, presentCount := 2 } }
     r.2.1.fine.state = .due
       ∧ r.2.2.take 2 = [.notice .filterDue (some 2#8), .filterMissing false]) := by
  decide +kernel

/-- Section 7.11 at 0.8 s: the duty of 358 lets the waiting sequencer start the compressor. -/
theorem test_compressor_start :
    (let r := dsDeliver 350 .applied { readySequencer .airflowWait with applied := 358, airflowWaitLeft := some 29200 }
     r.1.state = .running ∧ r.1.compressor = true ∧ r.1.onLeft = some 120000 ∧ r.1.airflowWaitLeft = none
       ∧ r.1.frostLeft = none) := by
  decide +kernel

/-- Section 7.11 at 712 s: a coil of +52 ends the defrost, and a blocked tank makes it Tank-Hold. -/
theorem test_thaw :
    (let r := dsDeliver 350 .unitReading { readySequencer .defrost with
        coil := some 52, tankBlocked := true, defrostLeft := some 358000 }
     r.1.state = .tankHold ∧ r.1.defrostLeft = none ∧ r.1.timeouts = 0 ∧ Signal.dryingActive false ∈ r.2) := by
  decide +kernel

/-- Table 8-5 at 252 s: the entry into Full posts TankFull and delivers the block, the pump going on. -/
theorem test_tank_full :
    (let closed (b : Bool) : SwitchState := ⟨b, some b, none⟩
     let r := settleLevel true .run { tankAt .high .running with
        present := closed true, low := closed true, high := closed true, full := closed true }
     r.1.level = .full ∧ r.1.blocked = true ∧ r.1.pump = .running
       ∧ r.2 = [.notice .tankFull none, .tankReport true]) := by
  decide +kernel

/-- Table 8-5 at 192 s: the first timeout of an ordinary run. -/
theorem test_pump_timeout :
    (nextOf (exec .maxRunExpiry (tankIn { tankAt .high .running with maxRunLeft := some 0 }))).map
      (fun t => (t.tm.pump, t.tm.restLeft, t.tm.timeouts, t.tm.finish)) = some (.rest, some 10000, 1, .timeout) := by
  decide +kernel

/-- Table 9-3: PM2.5 60 gives D = 192 and no wake, PM2.5 90 gives D = 312, and the unit wakes into Run with demanded duty
415. -/
theorem test_standby_wake :
    (settle [.demandUpdate] (zoneIn (roomIn .fresh (some 60) none) .standby)).mc.mode = .standby
      ∧ (settle [.demandUpdate] (zoneIn (roomIn .fresh (some 90) none) .standby)).mc.mode = .run
      ∧ (settle [.demandUpdate] (zoneIn (roomIn .fresh (some 90) none) .standby)).dmu.demandedDuty = 415 := by
  decide +kernel

/-- The store of Table 10-3 at 12 ms, the first write of 20 octets being in progress. -/
def pressedStore : Store where
  cells := []
  queue := [⟨.f2, List.replicate 20 0#8⟩, ⟨.bh, List.replicate 8 0#8⟩, ⟨.panel 600, [1#8, 1#8, 1#8, 1#8]⟩]
  current := some ⟨⟨.f2, List.replicate 20 1#8⟩, 5, 4⟩

/-- Table 10-3 at 14 and 15 ms: the second data for word 600 takes the first's place, and word 604 is refused Full. -/
theorem test_write_queue :
    ((handItem ⟨.panel 600, [2#8, 2#8, 2#8, 2#8]⟩ pressedStore).queue.map StoreItem.target = [.f2, .bh, .panel 600])
      ∧ (answer (payloadStoreWrite 604#16 0x02020202#32) (storeIn pressedStore)).status = .full := by
  decide +kernel

/-- Table 11-3: with four Replies standing and four Requests waiting a fifth is dropped, and at the departure of a Reply the
front Request is taken. -/
theorem test_reply_budget :
    (let full : Panel := { Panel.reset with
        upward := repliesOf 4, sending := some ⟨⟨.relay, 0#8, []⟩, 0⟩
        requests := [⟨5#8, [0x0B#8, 1#8]⟩, ⟨6#8, [0x0B#8, 1#8]⟩, ⟨7#8, [0x0B#8, 1#8]⟩, ⟨8#8, [0x0B#8, 1#8]⟩] }
     (receiveRequest 9#8 [0x0B#8, 1#8] (linkIn full)).pl.requestsDropped = 1#16
       ∧ (nextOf (exec .upwardFrameEnd (linkIn full))).map
          (fun t => (t.pl.requests.map Request.tag, countFrames .reply t.pl.upward)) = some ([6#8, 7#8, 8#8], 4)) := by
  decide +kernel

/-- R161: the words of a record are written from the highest address down. -/
theorem test_highest_word_first :
    (nextOf (exec .nvsWordDone (storeIn pressedStore))).map (fun t =>
        (Memory.read t.nvs.cells (targetAddress .f2 + 16), Memory.read t.nvs.cells (targetAddress .f2),
          t.nvs.current.map StoreWriting.wordsLeft)) = some (1#8, 0xFF#8, some 4) := by
  decide +kernel

/-- R166 and Table 11-4: the seven octets of a Clear Lockout frame with tag 5 are the arrival of that Request. -/
theorem test_frame_octet_by_octet :
    (withCheck [0x3C#8, 1#8, 1#8, 5#8, 0x15#8]).foldl (fun t o => t.bind fun u => nextOf (exec (.panelOctet o) u))
        (some State.reset)
      = nextOf (exec (.clearLockout 5#8) State.reset) := by
  decide +kernel

/-- R166: an octet that ends a gap above 10 ms discards the frame, is counted, and may itself be a lead. -/
theorem test_octet_after_the_gap :
    (nextOf (exec (.panelOctet 0x3C#8) (linkIn { Panel.reset with receiver := .assembling [0x3C#8, 1#8] 0 }))).map
      (fun t => (t.pl.receiver, t.pl.checkFail)) = some (.assembling [0x3C#8] 11, 1#16) := by
  decide +kernel

/-- Table 11-4: the octets of the Notice TankFull (code 3, no subject) with upward number 9. -/
theorem test_notice_octets :
    (frameOctets ⟨.notice, 9#8, [3#8, 0xFF#8]⟩).take 6 = [0x3C#8, 2#8, 0x04#8, 9#8, 3#8, 0xFF#8]
      ∧ checkHolds (frameOctets ⟨.notice, 9#8, [3#8, 0xFF#8]⟩) = true := by
  decide +kernel

/-- R170: while another frame is in transmission, a pending Restart does not take effect. -/
theorem test_restart_waits_for_its_reply :
    (let s := linkIn { Panel.reset with
        restartPending := true, sending := some ⟨⟨.relay, 0#8, []⟩, 1⟩, upward := [⟨.reply, 7#8, [0x1C#8, 0#8]⟩] }
     nextOf (exec .restartTakesEffect s) = some s) := by
  decide +kernel

/-! ### Reset -/

/-- R113 and R114: a checkpoint of the fine stage in its slot is the account restored at power-on. -/
theorem test_checkpoint_restored :
    (let cells := Memory.writeAll [] 288 (stageItem true { StageRecord.fromNothing with
        number := 2, dose := 70000, held := 640, life := 860, state := .due, restored := true, stamp := 5#32 }).octets
     (restoreStage true (Quad.all builtInClass) cells).1 =
       { number := 2, dose := 70000, remainder := 0, held := 640, life := 860, state := .due, restored := true
         checkpointLife := 860, stamp := 5#32, unsaved := false, absentCount := 0, presentCount := 0 }) := by
  decide +kernel

/-- Power-on of the reset state is the reset state: a store never written (log 11). -/
theorem test_power_on_of_reset : nextOf (exec .powerOn State.reset) = some State.reset := by decide +kernel

/-- The first step from reset lets a millisecond pass. -/
theorem test_first_step : nextOf (step State.reset) = some (advance State.reset) ∧ (advance State.reset).iu.timeBase = 1#32 := by
  decide +kernel

/-- The table gives no row any bits, so no word spells a command (log 31). -/
theorem test_no_word_spells_a_command : decodeTableWord 16 0x1234 = none := by decide +kernel

/-! ### Ill-formed commands -/

/-- A payload of more than 56 octets does not fit a frame. -/
theorem test_long_payload_refused : Instr.wellFormed (.unknownRequest 0#8 (0x1D#8 :: List.replicate 56 0#8)) = false := by
  decide +kernel

/-- An unknown Request of a known number and right length is no unknown Request. -/
theorem test_known_request_refused :
    Instr.wellFormed (.unknownRequest 0#8 [0x15#8]) = false ∧ Instr.wellFormed (.unknownRequest 0#8 [0x15#8, 0#8]) = true
      ∧ Instr.wellFormed (.unknownRequest 0#8 []) = true ∧ Instr.wellFormed (.unknownRequest 0#8 [0x1D#8]) = true := by
  decide +kernel

/-- A fan curve has 17 points. -/
theorem test_short_curve_refused :
    Instr.wellFormed (.loadFanCurve 0#8 (List.replicate 16 0#16)) = false
      ∧ Instr.wellFormed (.loadFanCurve 0#8 (List.replicate 17 0#16)) = true := by
  decide +kernel

/-! ### States and operands that meet the statements' hypotheses

Each theorem names its statement. A hypothesis that only names a value (an equation with a variable on its left) is met by
that value and is not written out. -/

theorem test_witness_StepRunsTheFrontCommand :
    ({ State.reset with pending := [.rampTick, .pollSent] } : State).pending = .rampTick :: [.pollSent] := by decide +kernel

theorem test_witness_IdleStepFollowsTheClock :
    State.reset.pending = [] ∧ due State.reset = []
      ∧ due { State.reset with bd := { State.reset.bd with rampLeft := 0 } } = [.rampTick]
      ∧ due { State.reset with bd := { State.reset.bd with rampLeft := 0 }, ds := { State.reset.ds with offLeft := some 0 } }
        = [.rampTick, .offTimerExpiry]
      ∧ (lineIn .idle).iu.phase = .idle ∧ State.reset.iu.phase = .poll 0 (zoneLineTime 4) := by
  decide +kernel

theorem test_witness_CommandsLeaveTheQueueAlone :
    (nextOf (exec .pollSent State.reset)).map (·.pending) = some [] := by decide +kernel

/-- A record of the run hours in its slot: 3,600 s. -/
def hoursInStore : List Host.Cell := Memory.writeAll [] 320 (runHourItem 3600).octets

/-- A store whose factory records hold a curve and the built-in classes. -/
def factoryStore : List Host.Cell :=
  Memory.writeAll (Memory.writeAll [] 64 (recordOctets 0x46#8 0x56#8 (workedCurve.flatMap nat16))) 128
    (recordOctets 0x46#8 0x43#8 (filterClassOctets builtInClass ++ filterClassOctets builtInClass
      ++ filterClassOctets builtInClass ++ filterClassOctets builtInClass))

theorem test_witness_TheResets_factory :
    (workedCurve.length = 17 ∧ (∀ p ∈ workedCurve, p ≤ 1500)
        ∧ Memory.readAll factoryStore 64 38 = [0x46#8, 0x56#8, 17#8] ++ workedCurve.flatMap nat16
          ++ [(Memory.readAll factoryStore 64 38).getD 37 0#8]
        ∧ (Memory.readAll factoryStore 64 38).foldl (· + ·) 0#8 = 0#8)
      ∧ (classInRange builtInClass = true
        ∧ (Memory.readAll factoryStore 128 64).take 63 = [0x46#8, 0x43#8, 30#8] ++ filterClassOctets builtInClass
          ++ filterClassOctets builtInClass ++ filterClassOctets builtInClass ++ filterClassOctets builtInClass
        ∧ (Memory.readAll factoryStore 128 64).foldl (· + ·) 0#8 = 0#8) := by
  decide +kernel

theorem test_witness_TheResets :
    (linkIn { Panel.reset with restartPending := true, sending := some ⟨⟨.reply, 7#8, [0x1C#8, 0x00#8]⟩, 0⟩ }).pl.restartPending
        = true
      ∧ State.reset.pl.restartPending = false
      ∧ (∀ x, Panel.reset.sending = some x → ¬ (x.frame.kind = .reply ∧ x.frame.payload = [0x1C#8, 0x00#8]))
      ∧ (Memory.readAll hoursInStore 320 8).take 3 = [0x42#8, 0x48#8, 2#8]
      ∧ (Memory.readAll hoursInStore 320 8).foldl (· + ·) 0#8 = 0#8 ∧ restoreRunHours hoursInStore = 3600
      ∧ (∀ (points : List Nat) (c : Byte),
        Memory.readAll [] 64 38 ≠ [0x46#8, 0x56#8, 17#8] ++ points.flatMap nat16 ++ [c])
      ∧ StageRecord.fromNothing.state ≠ .missing
      ∧ ({ StageRecord.fromNothing with state := .missing } : StageRecord).state = .missing := by
  refine ⟨by decide +kernel, by decide +kernel, nofun, by decide +kernel, by decide +kernel, by decide +kernel,
    fun points c h => ?_, by decide +kernel, by decide +kernel⟩
  have head := congrArg List.head? h
  simp [Memory.readAll, Memory.read, Memory.erased] at head

theorem test_witness_CycleStart :
    (lineIn .idle).iu.phase = .idle ∧ intervalNow (lineIn .idle) = some 10000
      ∧ (lineIn .idle).iu.pollList = [⟨1, .either⟩] ∧ (lineIn .idle).iu.down = []
      ∧ State.reset.iu.phase ≠ .idle ∧ intervalNow (modeIn .service .inject) = none
      ∧ ({ (lineIn .idle).iu with pollList := [], down := [⟨1#8, []⟩] } : Intake).down = ⟨1#8, []⟩ :: [] := by
  decide +kernel

theorem test_witness_CycleStart_check :
    (∀ r b, checkBit r b = if r.getLsbD 15 = b then r <<< 1 else (r <<< 1) ^^^ 0x1021#16)
      ∧ pollFrame 1 = [0x70#8, 0x01#8, 0x05#8, 0x77#8] := by
  refine ⟨checkBit_eq, by decide +kernel⟩

theorem test_witness_PollsFollowEachOther :
    State.reset.iu.phase = .poll 0 (zoneLineTime 4) ∧ (∀ k left, (lineIn .idle).iu.phase ≠ .poll k left)
      ∧ (lineIn (.gap 0 5)).iu.pollList[0 + 1]? = none
      ∧ ({ State.reset.iu with pollList := [⟨1, .either⟩, ⟨4, .short⟩] } : Intake).pollList[0 + 1]? = some ⟨4, .short⟩
      ∧ (∀ k left, State.reset.iu.phase ≠ .gap k left) := by
  refine ⟨by decide +kernel, fun _ _ => nofun, by decide +kernel, by decide +kernel, fun _ _ => nofun⟩

theorem test_witness_NodeMessages :
    (lineIn .idle).iu.phase = .idle ∧ (lineIn .idle).iu.startDue = false ∧ State.reset.iu.down = []
      ∧ (lineIn (.message 0)).iu.phase = .message 0 ∧ (∀ left, State.reset.iu.phase ≠ .message left)
      ∧ (lineIn (.messageWait 0)).iu.phase = .messageWait 0 ∧ (∀ left, State.reset.iu.phase ≠ .messageWait left)
      ∧ ({ (lineIn .idle).iu with startDue := true } : Intake).pollList = ⟨1, .either⟩ :: []
      ∧ ({ (lineIn .idle).iu with startDue := true, pollList := [], down := [⟨1#8, []⟩] } : Intake).pollList = []
      ∧ State.reset.iu.phase ≠ .idle := by
  refine ⟨by decide +kernel, by decide +kernel, by decide +kernel, rfl, fun _ => nofun, rfl, fun _ => nofun,
    by decide +kernel, by decide +kernel, by decide +kernel⟩

theorem test_witness_AnswerPeriods :
    (lineIn (.answer 0 ⟨.hunting, false, some 15, none⟩)).iu.pollList[0]? = some ⟨1, .either⟩
      ∧ ([0x71#8] ++ [0#8]).length < (if ([0x71#8] ++ [0#8]).head? = some 0x72#8 then 20 else 12)
      ∧ (List.replicate 18 0x72#8 ++ [0#8]).length < (if (List.replicate 18 0x72#8 ++ [0#8]).head? = some 0x72#8 then 20 else 12)
      ∧ frameLength (List.replicate 11 0x71#8 ++ [0#8]) ≤ (List.replicate 11 0x71#8 ++ [0#8]).length
      ∧ frameLength (List.replicate 19 0x72#8 ++ [0#8]) ≤ (List.replicate 19 0x72#8 ++ [0#8]).length
      ∧ (∀ k p, State.reset.iu.phase ≠ .answer k p)
      ∧ (∀ j h heard n f, (lineIn (.answer 0 ⟨.assembling 0#32 [0x71#8], true, none, some 12⟩)).iu.phase
          ≠ .answer j ⟨h, heard, some n, f⟩)
      ∧ (∀ j heard w n stamp octets, (lineIn (.answer 0 ⟨.hunting, false, some 15, none⟩)).iu.phase
          ≠ .answer j ⟨.assembling stamp octets, heard, w, some n⟩) := by
  refine ⟨by decide +kernel, by decide +kernel, by decide +kernel, by decide +kernel, by decide +kernel,
    fun _ _ => nofun, fun _ _ _ _ _ => ?_, fun _ _ _ _ _ _ => ?_⟩
    <;> simp [lineIn]

/-- A Short frame of node 1 with sequence 6. -/
def frameOfNode1 : List Byte := withCheck [0x71#8, 1#8, 6#8, 0#8, 200#8, 2#8, 36#8, 0#8, 38#8, 0#8]

theorem test_witness_FrameValidation :
    (readingOfFrame frameOfNode1).isSome = true ∧ checkHolds frameOfNode1 = true
      ∧ checkHolds (frameOfNode1.take 11 ++ [~~~frameOfNode1.getD 11 0#8]) = false
      ∧ (frameOfNode1.getD 1 0#8).toNat = 1 ∧ (frameOfNode1.getD 1 0#8).toNat ≠ 4
      ∧ some 6#8 = some (frameOfNode1.getD 2 0#8) ∧ (NodeRecord.fresh 1 .either).lastSequence ≠ some (frameOfNode1.getD 2 0#8) := by
  decide +kernel

theorem test_witness_NodeRecords :
    Intake.reset.pollList[0]? = some ⟨1, .either⟩ ∧ findNode 1 Intake.reset.nodes = some (NodeRecord.fresh 1 .either) := by
  decide +kernel

theorem test_witness_PolarityAndCounts :
    Settings.defaults.polarity = .auto ∧ ({ Settings.defaults with polarity := .normal } : Settings).polarity ≠ .auto
      ∧ ({ Intake.reset with badWindows := 4 } : Intake).badWindows < 5
      ∧ 5 ≤ ({ Intake.reset with badWindows := 5 } : Intake).badWindows
      ∧ (∀ stamp q fields m, PeriodOutcome.stray ≠ .accepted stamp q fields m) := by
  refine ⟨by decide +kernel, by decide +kernel, by decide +kernel, by decide +kernel, fun _ _ _ _ => nofun⟩

theorem test_witness_ReadingDelivery :
    NodeState.live ≠ .lost
      ∧ ((zoneIn (roomIn .held (some 20) none)).dmu.zones.get 0).entry.node = 1
      ∧ (let zones := (zoneIn (roomIn .held (some 20) none)).dmu.zones
        ∀ i, (route .lineReset (zoneIn (roomIn .held (some 20) none))).1.dmu.zones.get i =
          if (zones.get i).entry.node = 0 then zones.get i else { zones.get i with
            sample := .stale, pm25 := none, rh := none, temperature := none, lastAccept := none, holdExpiry := none }) := by
  decide +kernel

theorem test_witness_SampleStates :
    ((zoneIn (roomIn .held (some 20) none)).dmu.zones.get 0).sample = .held
      ∧ ((zoneIn (roomIn .fresh (some 20) none)).dmu.zones.get 0).sample ≠ .held
      ∧ NodeState.missing ≠ .live ∧ ((roomIn .fresh none none).entry.node = 1 ∧ 1 ≠ 0)
      ∧ (59999#32 - 0#32).toNat < Settings.defaults.holdTime * 1000
      ∧ Settings.defaults.holdTime * 1000 ≤ (60000#32 - 0#32).toNat
      ∧ (roomIn .fresh none none).lastAccept = some 0#32
      ∧ ({ roomIn .fresh none none with lastAccept := none } : Zone).lastAccept = none
      ∧ (roomIn .stale none none).sample ≠ .fresh ∧ (roomIn .fresh none none).entry.node ≠ 2 := by
  decide +kernel

theorem test_witness_DemandFields :
    (roomIn .stale (some 12) (some 500)).sample = .stale ∧ (roomIn .noNode none none).sample = .noNode
      ∧ (roomIn .fresh none none).pm25 = none ∧ (roomIn .held none none).rh = none
      ∧ 12 ≤ (roomIn .fresh (some 12) none).entry.pmTarget ∧ (roomIn .fresh (some 13) none).entry.pmTarget < 13
      ∧ (zoneIn (roomIn .fresh (some 13) none)).dmu.filterMissing = false
      ∧ ({ State.reset.dmu with filterMissing := true } : Demand).filterMissing = true
      ∧ (roomIn .held none (some 500)).rh = some 500 := by
  decide +kernel

theorem test_witness_DryingCall :
    (zoneIn (roomIn .fresh none (some 530))).dmu.call = false
      ∧ ({ (zoneIn (roomIn .fresh none (some 490))).dmu with call := true } : Demand).call = true
      ∧ (((zoneIn (roomIn .fresh none (some 530))).dmu.zones.get 0).entry.enabled = true
        ∧ ((zoneIn (roomIn .fresh none (some 530))).dmu.zones.get 0).entry.drying = true
        ∧ Settings.defaults.callOn ≤ (530 : Int) - 500 ∧ (490 : Int) - 500 ≤ Settings.defaults.callOff) := by
  decide +kernel

theorem test_witness_DemandedDuty :
    (route .demandUpdate (zoneIn (roomIn .fresh (some 38) none))).1.dmu.largest = 104
      ∧ (route .demandUpdate (zoneIn (roomIn .stale none none))).1.dmu.largest = 0
      ∧ (zoneIn (roomIn .fresh (some 38) none)).mc.mode = .run ∧ (modeIn .quiet).mc.mode = .quiet
      ∧ (modeIn .off).mc.mode = .off ∧ (modeIn .standby).mc.mode = .standby ∧ (modeIn .service).mc.mode = .service := by
  decide +kernel

theorem test_witness_OpeningsAndTargets :
    ((route .demandUpdate State.reset).1.dmu.zones.get 0).entry.enabled = false
      ∧ 0 < ((route .demandUpdate (zoneIn (roomIn .fresh (some 38) none))).1.dmu.zones.get 0).d
      ∧ ((route .demandUpdate (zoneIn (roomIn .fresh (some 38) none))).1.dmu.zones.get 0).entry.enabled = true
      ∧ (∀ j, ((route .demandUpdate (zoneIn (roomIn .fresh (some 12) none))).1.dmu.zones.get j).d = 0)
      ∧ ((damperIn (bladeIn .settled (some 0) (some 0) 0)).dp.dampers.get 0).entry.fitted = true
      ∧ (State.reset.dp.dampers.get 0).entry.fitted = false := by
  decide +kernel

/-- The link of the reset state takes a Request when it arrives: the hypothesis of every statement about a Request. -/
theorem test_witness_link_ready : linkReady State.reset.pl = true := by decide +kernel

theorem test_witness_SetZoneTargets :
    6 ≤ (6#8).toNat ∧ (0#8).toNat = (0 : Fin 6).val ∧ (5#8).toNat = (5 : Fin 6).val
      ∧ (max 5 (min 500 (500#16).toNat) = 500 ∧ max 5 (min 500 (501#16).toNat) = 500 ∧ max 300 (min 700 (299#16).toNat) = 300) := by
  decide +kernel

theorem test_witness_LoadZoneEntry :
    ((1#8).toNat ≤ 1 ∧ (0#8).toNat ≤ 1 ∧ 5 ≤ (5#16).toNat ∧ (500#16).toNat ≤ 500 ∧ 1 ≤ (1#8).toNat ∧ 300 ≤ (300#16).toNat
        ∧ (700#16).toNat ≤ 700)
      ∧ ¬ (2#8).toNat ≤ 1 ∧ 30 < (31#8).toNat ∧ findNode 30 State.reset.iu.nodes = none
      ∧ (∃ r, findNode 1 State.reset.iu.nodes = some r) ∧ (0#8).toNat = 0
      ∧ ((roomIn .fresh none none).entry.node ≠ 0 ∧ Zone.reset.entry.node = 0 ∧ (NodeRecord.fresh 1 .either).state = .unknown
        ∧ ({ NodeRecord.fresh 1 .either with state := .lost, lastAccept := some 0#32 } : NodeRecord).state = .lost
        ∧ (59999#32 - 0#32).toNat < 60 * 1000 ∧ 60 * 1000 ≤ (60000#32 - 0#32).toNat) := by
  refine ⟨by decide +kernel, by decide +kernel, by decide +kernel, by decide +kernel, ⟨_, rfl⟩, by decide +kernel,
    by decide +kernel⟩

theorem test_witness_RampTick :
    (min 1000 (max 0 ((0 : Int) + (640 : Nat) - (540 : Nat))) = (100 : Nat)) ∧ profileInRange defaultProfile = true
      ∧ (blowerIn .running 101).bd.applied > 100 ∧ (blowerIn .running 100).bd.applied ≤ 100
      ∧ (blowerIn .stopped 0).bd.state = .stopped ∧ (blowerIn .retryWait 0).bd.state = .retryWait
      ∧ (blowerIn .fault 0).bd.state = .fault
      ∧ 0 < (blowerTick (modeIn .run).mc ⟨bladeIn .settled (some 500) (some 500) 500, State.reset.dp.dampers.z1,
          State.reset.dp.dampers.z2, State.reset.dp.dampers.z3, State.reset.dp.dampers.z4, State.reset.dp.dampers.z5⟩
          { Blower.reset 0 with staged := 1 }).1.applied
      ∧ (blowerTick (modeIn .run).mc State.reset.dp.dampers { Blower.reset 0 with state := .running, applied := 5 }).1.applied = 0 := by
  decide +kernel

theorem test_witness_BlowerLawsAreKept :
    allowanceInvariant State.reset = true ∧ nextOf (step State.reset) = some (advance State.reset)
      ∧ allowanceInvariant { damperIn (bladeIn .settled (some 500) (some 500) 500) with bd := { Blower.reset 0 with
          applied := 500, state := .running } } = true
      ∧ ¬ State.reset.bd.stallLeft.isSome
      ∧ ({ Blower.reset 0 with state := .running, applied := 150, stallLeft := some 1000 } : Blower).stallLeft.isSome
      ∧ ({ Blower.reset 0 with state := .running, applied := 130, stallLeft := some 0 } : Blower).stallLeft = some 0 := by
  decide +kernel

theorem test_witness_TachAndCapture :
    State.reset.bd.chain.reference = false ∧ (⟨true, 0, 0⟩ : CaptureChain).edges + 1 < Settings.defaults.edges
      ∧ Settings.defaults.edges ≤ (⟨true, 1, 0⟩ : CaptureChain).edges + 1
      ∧ ({ Blower.reset 0 with noCaptureLeft := some 0 } : Blower).noCaptureLeft = some 0
      ∧ State.reset.bd.noCaptureLeft = none := by
  decide +kernel

theorem test_witness_BlowerTimers :
    ({ Blower.reset 0 with stallLeft := some 0, retryCount := 1 } : Blower).retryCount + 1 < 3
      ∧ 3 ≤ ({ Blower.reset 0 with stallLeft := some 0, retryCount := 2 } : Blower).retryCount + 1
      ∧ State.reset.bd.stallLeft = none ∧ State.reset.bd.retryLeft = none ∧ State.reset.bd.healthyLeft = none
      ∧ ({ Blower.reset 0 with retryLeft := some 0, healthyLeft := some 0 } : Blower).retryLeft = some 0
      ∧ (0 < (1 : Nat) ∧ min 4294967295 (3599 + 1) % 3600 = 0 ∧ min 4294967295 (3600 + 1) % 3600 ≠ 0)
      ∧ (Blower.reset 4294967295).runSeconds = 4294967295
      ∧ State.reset.bd.applied = 0 ∧ State.reset.bd.runFraction < 1000 := by
  decide +kernel

/-- Where a step from one position toward a target leads. -/
def steppedTo (p t : Nat) : Nat := if p < t then p + 1 else if t < p then p - 1 else p

/-- A damper in Moving from a position toward a target, with what MoveStep asks of it. -/
def moves (p t share p' : Nat) : Bool :=
  let d := bladeIn .moving (some p) (some t) share
  d.state == .moving && !d.seeking && d.position == some p && d.target == some t && steppedTo p t == p'
    && (damperIn d).dp.dampers.get 0 == d

theorem test_witness_MoveStep :
    (moves 22 0 5 21 = true ∧ 20 < 21 ∧ 0 < 5) ∧ (moves 20 21 0 21 = true ∧ 20 < 21 ∧ 0 < 21)
      ∧ (moves 22 0 0 21 = true ∧ 20 < 21) ∧ moves 1 0 0 0 = true ∧ (moves 19 20 0 20 = true ∧ 0 < 20 ∧ 20 ≤ 20)
      ∧ (moves 999 1000 0 1000 = true ∧ 0 < 1000) ∧ (moves 19 30 0 20 = true ∧ 20 ≠ 30)
      ∧ (bladeIn .settled (some 0) (some 0) 0).state ≠ .moving
      ∧ ({ bladeIn .moving (some 0) (some 0) 0 with seeking := true } : Damper).seeking = true := by
  decide +kernel

theorem test_witness_HomingAndSeekSteps :
    ((bladeIn .homing none none 0).state = .homing ∧ (bladeIn .homing none none 0).target = none)
      ∧ ((bladeIn .homing none (some 1) 0).state = .homing ∧ (bladeIn .homing none (some 1) 0).target = some 1 ∧ 0 < 1)
      ∧ (let d := { bladeIn .homing none none 0 with homingCount := 1199 }
         d.state = .homing ∧ d.entry.travel + 200 ≤ d.homingCount + 1)
      ∧ (let d := { bladeIn .homing none none 0 with homingCount := 1198 }
         d.state = .homing ∧ d.homingCount + 1 < d.entry.travel + 200)
      ∧ (bladeIn .settled (some 0) (some 0) 0).state ≠ .homing ∧ (bladeIn .settled (some 0) (some 0) 0).state ≠ .moving
      ∧ (let d := { bladeIn .moving (some 0) (some 0) 0 with seeking := true, confirmCount := 39 }
         d.state = .moving ∧ d.seeking = true ∧ d.position = some 0 ∧ 40 ≤ d.confirmCount + 1)
      ∧ (let d := { bladeIn .moving (some 0) (some 0) 0 with seeking := true, confirmCount := 38 }
         d.state = .moving ∧ d.seeking = true ∧ d.confirmCount + 1 < 40) := by
  decide +kernel

/-- A damper of travel 1000 at a position with a share, offered a target other than its own, and the q of R73. -/
def offered (state : DamperState) (p share given q : Nat) : Bool :=
  let d := bladeIn state (some p) none share
  d.target != some given && d.state == state && d.position == some p && !d.seeking && min given d.entry.travel == given
    && q == min (given * 1000 / d.entry.travel) (p * 1000 / d.entry.travel)

theorem test_witness_DamperTargetsAndModes :
    ((State.reset.dp.dampers.get 0).state = .unfitted ∧ (State.reset.dp.dampers.get 0).target ≠ some 1)
      ∧ (offered .settled 600 600 200 200 = true ∧ 200 < 600) ∧ (offered .settled 600 600 601 600 = true ∧ 600 ≤ 600 ∧ 601 ≠ 600)
      ∧ (offered .settled 600 600 600 600 = true ∧ 600 ≠ 0) ∧ (offered .settled 0 0 0 0 = true ∧ 0 ≤ 0)
      ∧ (let d := { bladeIn .moving (some 0) (some 0) 0 with seeking := true }
         d.target ≠ some 1 ∧ d.state = .moving ∧ d.position = some 0 ∧ d.share = 0 ∧ 0 < 1)
      ∧ (offered .moving 600 600 599 599 = true ∧ 599 < 600) ∧ (offered .moving 600 599 599 599 = true ∧ 599 ≤ 599 ∧ 599 ≠ 600)
      ∧ (offered .moving 600 600 600 600 = true ∧ 600 ≠ 0) ∧ offered .moving 0 0 0 0 = true
      ∧ (offered .waiting 600 600 600 600 = true ∧ 600 ≤ 600) ∧ offered .waiting 0 0 0 0 = true
      ∧ (offered .waiting 600 600 100 100 = true ∧ 100 < 600) ∧ (offered .waiting 600 600 700 600 = true ∧ 600 ≤ 600)
      ∧ (let d := bladeIn .faulted none (some 1000) 0
         d.target = some (min 2000 d.entry.travel) ∧ d.state ≠ .unhomed)
      ∧ (let d := { bladeIn .waiting (some 600) (some 200) 600 with pending := 400, covered := some 400 }
         d.state = .waiting ∧ d.covered = some 400 ∧ d.pending ≤ 400 ∧ d.seeking = false
           ∧ d.share - d.pending ≤ min (200 * 1000 / d.entry.travel) (600 * 1000 / d.entry.travel) ∧ 200 ≠ 600)
      ∧ (let d := { bladeIn .waiting (some 500) (some 500) 600 with pending := 100, covered := some 100 }
         d.state = .waiting ∧ d.pending ≤ 100
           ∧ d.share - d.pending ≤ min (500 * 1000 / d.entry.travel) (500 * 1000 / d.entry.travel) ∧ 500 ≠ 0)
      ∧ (let d := { bladeIn .waiting (some 600) (some 200) 600 with pending := 400, covered := some 399 }
         d.covered = some 399 ∧ 399 < d.pending)
      ∧ (let d := { bladeIn .waiting (some 0) (some 0) 100 with pending := 100, covered := some 100 }
         d.pending ≤ 100 ∧ d.share - d.pending ≤ min (0 * 1000 / d.entry.travel) (0 * 1000 / d.entry.travel))
      ∧ ({ bladeIn .unhomed none (some 500) 0 with homeSwitch := true } : Damper).homeSwitch = true
      ∧ (bladeIn .moving (some 1) (some 2) 0).state = .moving ∧ (bladeIn .homing none none 0).state = .homing
      ∧ (let d := bladeIn .unhomed none none 0
         d.state = .unhomed ∧ d.entry.fitted = true ∧ d.homeSwitch = false) := by
  decide +kernel

theorem test_witness_DamperLawIsKept :
    dampersInvariant State.reset.dp = true
      ∧ dampersInvariant (damperIn (bladeIn .settled (some 500) (some 500) 500)).dp = true
      ∧ ((damperIn (bladeIn .moving (some 500) (some 600) 500)).dp.dampers.get 0).state = .moving := by
  decide +kernel

theorem test_witness_LoadDamperEntry :
    ((1#8).toNat ≤ 1 ∧ 200 ≤ (200#16).toNat ∧ (2000#16).toNat ≤ 2000 ∧ (500#16).toNat ≤ 500 ∧ (1000#16).toNat ≤ 1000)
      ∧ ¬ 200 ≤ (199#16).toNat ∧ ¬ (2#8).toNat ≤ 1 ∧ 6 ≤ (6#8).toNat ∧ (5#8).toNat = (5 : Fin 6).val
      ∧ State.reset.bd.applied = 0 ∧ 0 < (blowerIn .running 1).bd.applied
      ∧ (bladeIn .homing none none 0).state = .homing ∧ (State.reset.dp.dampers.get 5).homeSwitch = false
      ∧ (Damper.reset true).homeSwitch = true ∧ 4 * 200 / 1000 = 0 ∧ 0 < 5 * 200 / 1000
      ∧ (modeIn .service).mc.mode = .service ∧ (modeIn .run).mc.mode ≠ .service := by
  decide +kernel

theorem test_witness_StartEvaluation :
    startConditions Sequencer.reset = false ∧ startConditions (readySequencer .idle) = true
      ∧ ({ readySequencer .idle with offLeft := some 1 } : Sequencer).offLeft = some 1
      ∧ startConditions { readySequencer .idle with offLeft := some 1 } = true
      ∧ (readySequencer .idle).offLeft = none ∧ (readySequencer .idle).applied < 401 ∧ 400 ≤ (readySequencer .idle).applied
      ∧ (readySequencer .idle).service = false ∧ startConditions (readySequencer .readyWait) = true
      ∧ startConditions { readySequencer .readyWait with call := false } = false
      ∧ startConditions (readySequencer .airflowWait) = true
      ∧ startConditions { readySequencer .airflowWait with tankBlocked := true } = false := by
  decide +kernel

theorem test_witness_DryingTimers :
    startConditions { readySequencer .readyWait with offLeft := some 0 } = true
      ∧ (Sequencer.reset.offLeft = some 180000 ∧ Sequencer.reset.state = .idle ∧ Sequencer.reset.service = false)
      ∧ (readySequencer .defrost).state ≠ .readyWait ∧ (readySequencer .defrost).state ≠ .idle
      ∧ ({ readySequencer .running with onLeft := some 0, call := false } : Sequencer).call = false
      ∧ (readySequencer .running).call = true ∧ (readySequencer .running).onLeft = none
      ∧ ({ readySequencer .airflowWait with airflowWaitLeft := some 0 } : Sequencer).state = .airflowWait
      ∧ ({ readySequencer .running with graceLeft := some 0, frostLeft := some 0 } : Sequencer).state = .running
      ∧ ({ readySequencer .idle with graceLeft := some 0, service := true, compressor := true } : Sequencer).service = true
      ∧ ({ readySequencer .defrost with defrostLeft := some 0, timeouts := 2 } : Sequencer).timeouts + 1 = 3
      ∧ ({ readySequencer .defrost with defrostLeft := some 0, timeouts := 1, tankBlocked := true } : Sequencer).timeouts + 1 < 3
      ∧ (readySequencer .defrost).tankBlocked = false := by
  decide +kernel

theorem test_witness_RunningStops :
    (readySequencer .running).state = .running ∧ (readySequencer .running).compressor = true
      ∧ ({ readySequencer .running with tankBlocked := true } : Sequencer).tankBlocked = true
      ∧ ({ readySequencer .running with coil := none } : Sequencer).coil = none
      ∧ ({ readySequencer .running with faulted := true, mode := .service } : Sequencer).faulted = true
      ∧ ({ readySequencer .running with call := false } : Sequencer).onLeft = none
      ∧ ({ readySequencer .running with onLeft := some 1 } : Sequencer).onLeft = some 1
      ∧ (readySequencer .running).applied < 401 ∧ 400 ≤ (readySequencer .running).applied
      ∧ ({ readySequencer .running with coil := some 5 } : Sequencer).coil = some 5
      ∧ ({ readySequencer .running with coil := some 6 } : Sequencer).coil = some 6
      ∧ ({ readySequencer .defrost with coil := some 50, tankBlocked := true } : Sequencer).coil = some 50
      ∧ ({ readySequencer .defrost with coil := some 49, nodeLost := true } : Sequencer).coil = some 49
      ∧ (readySequencer .tankHold).tankBlocked = false ∧ (readySequencer .lockout).state = .lockout
      ∧ (let d := { readySequencer .idle with service := true, compressor := true, mode := .service }
         d.state = .idle ∧ d.service = true ∧ d.compressor = true ∧ d.mode = .service) := by
  decide +kernel

theorem test_witness_CompressorLawsAreKept :
    compressorInvariant .off 350 State.reset.ds = true ∧ compressorInvariant .run 350 (readySequencer .running) = true
      ∧ (readySequencer .running).compressor = true
      ∧ compressorInvariant .run 401 { readySequencer .running with graceLeft := some 10000 } = true
      ∧ (nextOf (step { dryingIn { readySequencer .running with onLeft := some 0, call := false } with
          pending := [.onTimerExpiry] })).map (·.ds.compressor) = some false := by
  decide +kernel

/-- A switch whose debounced state is its raw input. -/
def settledSwitch (closed : Bool) : SwitchState := ⟨closed, some closed, none⟩

theorem test_witness_TankReport :
    (switchOf .high State.reset.tm).raw ≠ true ∧ (switchOf .high State.reset.tm).raw = false
      ∧ (switchOf .low State.reset.tm).stabilityLeft = some 2000 ∧ (switchOf .low State.reset.tm).debounced ≠ some false
      ∧ (settledSwitch true).debounced = some (settledSwitch true).raw ∧ (settledSwitch true).stabilityLeft = none
      ∧ State.reset.tm.full.debounced = none
      ∧ derivedLevel { tankAt .high .off with
          present := settledSwitch true, low := settledSwitch true, high := settledSwitch true, full := settledSwitch true }
        ≠ (tankAt .high .off).level
      ∧ derivedLevel { tankAt .high .off with
          present := settledSwitch true, low := settledSwitch true, high := settledSwitch true, full := settledSwitch false }
        = (tankAt .high .off).level
      ∧ (tankAt .high .off).blocked = false ∧ State.reset.tm.blocked = true := by
  decide +kernel

theorem test_witness_PumpAtLevelChange :
    (tankAt .absent .running).pump = .running ∧ (tankAt .empty .running).serviceRun = false
      ∧ ({ tankAt .empty .running with serviceRun := true } : Tank).level = .empty
      ∧ (tankAt .fault .rest).pump = .rest ∧ (tankAt .normal .fault).pump = .fault ∧ TankLevel.empty ≠ .absent
      ∧ (tankAt .high .off).pump = .off := by
  decide +kernel

theorem test_witness_TankTimers :
    ({ tankAt .normal .off with rearmLeft := some 0 } : Tank).rearmLeft = some 0 ∧ State.reset.tm.rearmLeft = none
      ∧ ({ tankAt .high .running with maxRunLeft := some 0, serviceRun := true } : Tank).serviceRun = true
      ∧ ({ tankAt .high .running with maxRunLeft := some 0, timeouts := 1 } : Tank).timeouts + 1 < 3
      ∧ 3 ≤ ({ tankAt .high .running with maxRunLeft := some 0, timeouts := 2 } : Tank).timeouts + 1
      ∧ State.reset.tm.maxRunLeft = none ∧ State.reset.tm.restLeft = none
      ∧ ({ State.reset.mc.settings with pumpFitted := true } : Settings).pumpFitted = true ∧ (modeIn .run).mc.mode ≠ .service
      ∧ (tankAt .full .rest).level = .full ∧ State.reset.mc.settings.pumpFitted = false := by
  decide +kernel

theorem test_witness_PumpLimitsAreKept :
    pumpInvariant State.reset.tm = true
      ∧ pumpInvariant { tankAt .high .running with maxRunLeft := some 90000 } = true
      ∧ (tankAt .high .running).pump = .running := by
  decide +kernel

/-- The figures of section 5.8 meet the equations of the dose computation. -/
theorem test_witness_DoseComputation :
    (548 : Int) = (workedCurve.getD (2130 / 250) 0 : Int)
        + (((workedCurve.getD (2130 / 250 + 1) 0 : Int) - (workedCurve.getD (2130 / 250) 0 : Int)) * ((2130 % 250 : Nat) : Int)).tdiv 250
      ∧ (0 : Int) = if decide (UnitMode.off = .off ∨ UnitMode.off = .standby) then 0 else 1 := by
  decide +kernel

theorem test_witness_FilterStates :
    ((∃ dp : Nat, some 29 = some dp ∧ 1800 ≤ 1800 ∧ dp < builtInClass.absent)
        ∧ ¬ ∃ dp : Nat, some 30 = some dp ∧ 1800 ≤ 1800 ∧ dp < builtInClass.absent)
      ∧ (∃ dp : Nat, some 40 = some dp ∧ 1800 ≤ 1800 ∧ builtInClass.absent + 10 ≤ dp)
      ∧ 3 ≤ ({ workedFilters.fine with absentCount := 2 } : StageRecord).absentCount + 1
      ∧ ({ workedFilters.fine with absentCount := 1 } : StageRecord).absentCount + 1 < 3
      ∧ ({ workedFilters.fine with state := .missing, presentCount := 2 } : StageRecord).presentCount + 1 = 3
      ∧ workedFilters.fine.state ≠ .missing ∧ workedFilters.pre.state ≠ .missing := by
  refine ⟨⟨⟨29, by decide +kernel⟩, ?_⟩, ⟨40, by decide +kernel⟩, by decide +kernel, by decide +kernel,
    by decide +kernel, by decide +kernel, by decide +kernel⟩
  rintro ⟨dp, h, _, hd⟩
  simp only [Option.some.injEq] at h
  simp [builtInClass, ← h] at hd

theorem test_witness_FilterReplaced :
    ((3#8) ≠ 1#8 ∧ (3#8) ≠ 2#8) ∧ 4 ≤ (4#8).toNat ∧ (3#8).toNat = (3 : Fin 4).val
      ∧ State.reset.fs.fine.state ≠ .missing
      ∧ ({ State.reset.fs.fine with state := .missing } : StageRecord).state = .missing := by
  decide +kernel

theorem test_witness_TableLoads :
    ((List.replicate 16 0#16).length ≠ 17 ∧ (List.replicate 17 1500#16).length = 17
        ∧ (∀ p ∈ List.replicate 17 1500#16, p.toNat ≤ 1500) ∧ (∃ p ∈ List.replicate 17 1501#16, 1500 < p.toNat))
      ∧ ((1 : Nat) ≤ 1 ∧ 90 + 20 ≤ 110 ∧ (90 : Nat) ≤ 90 ∧ 4000 ≤ 4000 ∧ 500 ≤ 500) ∧ ¬ 90 + 20 ≤ 109
      ∧ State.reset.fs.pre.number = 0 ∧ State.reset.fs.pre.number ≠ 1 ∧ State.reset.fs.fine.number ≠ 1
      ∧ ((4 : Nat) ≤ (4#8).toNat ∧ (3#8).toNat = (3 : Fin 4).val)
      ∧ ([(1000#16, 200#8, 1#8)].length = (1#8).toNat ∧ [(1000#16, 200#8, 1#8)].length ≠ (2#8).toNat
        ∧ ([1000].Pairwise (· < ·)) ∧ [1000].getLast? = some 1000 ∧ [999].getLast? ≠ some 1000) := by
  refine ⟨⟨by decide +kernel, by decide +kernel, by simp, ⟨1501#16, by simp, by decide +kernel⟩⟩, by decide +kernel,
    by decide +kernel, by decide +kernel, by decide +kernel,
    by decide +kernel, by decide +kernel, by decide +kernel⟩

theorem test_witness_LoadPollList :
    ([(4#8, 0#8)].map (fun e => e.2.toNat) = [(⟨4, .short⟩ : PollEntry)].map (fun e => (formCode e.form).toNat)
        ∧ [(4#8, 0#8)].map (fun e => e.1.toNat) = [(⟨4, .short⟩ : PollEntry)].map PollEntry.address)
      ∧ [(4#8, 0#8)].length = (1#8).toNat ∧ [(4#8, 0#8)].length ≠ (2#8).toNat
      ∧ (∃ e ∈ [(4#8, 3#8)], 2 < e.2.toNat) ∧ 16 < (List.replicate 17 (⟨4, .short⟩ : PollEntry)).length
      ∧ (namedAddresses (List.replicate 16 (⟨30, .short⟩ : PollEntry))).length ≤ 12
      ∧ (∀ left, State.reset.iu.phase ≠ .message left) ∧ (∀ left, State.reset.iu.phase ≠ .messageWait left)
      ∧ intervalNow State.reset = some 10000 ∧ intervalNow (modeIn .service .inject) = none ∧ State.reset.iu.down = []
      ∧ (∃ left, (lineIn (.message 3)).iu.phase = .message left ∨ (lineIn (.message 3)).iu.phase = .messageWait left)
      ∧ (∃ left, (lineIn (.messageWait 3)).iu.phase = .message left ∨ (lineIn (.messageWait 3)).iu.phase = .messageWait left) := by
  refine ⟨by decide +kernel, by decide +kernel, by decide +kernel, ⟨(4#8, 3#8), by decide +kernel⟩, by decide +kernel,
    by decide +kernel, fun _ => nofun, fun _ => nofun,
    by decide +kernel, by decide +kernel, by decide +kernel, ⟨3, .inl rfl⟩, ⟨3, .inr rfl⟩⟩

theorem test_witness_SetMode :
    ((0#8 ≠ 4#8 ∧ some 0#8 ≠ none) ∧ 4 < (5#8).toNat ∧ 1 < (2#8).toNat ∧ 1#8 = modeCode .run ∧ 4#8 = modeCode .service
        ∧ some 1#8 = some (sourceCode .inject))
      ∧ UnitMode.run ≠ State.reset.mc.mode ∧ UnitMode.off = State.reset.mc.mode
      ∧ UnitMode.service = (modeIn .service).mc.mode ∧ ServiceSource.inject ≠ (modeIn .service).mc.source
      ∧ State.reset.bd.state ≠ .fault ∧ (blowerIn .fault 0).bd.state = .fault := by
  decide +kernel

theorem test_witness_ModeChanges :
    (blowerIn .retryWait 0).bd.state = .retryWait ∧ State.reset.bd.state ≠ .retryWait
      ∧ (tankAt .high .running).pump = .running ∧ (tankAt .high .rest).pump = .rest
      ∧ ({ Settings.defaults with pumpFitted := true } : Settings).pumpFitted = true ∧ (tankAt .high .off).level = .high
      ∧ State.reset.fs.pre.unsaved = true ∧ ({ State.reset.fs.fine with unsaved := false } : StageRecord).unsaved = false
      ∧ (modeIn .standby).mc.mode = .standby ∧ (modeIn .standby).mc.settings.autoWake = true
      ∧ (modeIn .standby).mc.settings.wakeThreshold ≤ 300 ∧ 299 < (modeIn .standby).mc.settings.wakeThreshold
      ∧ State.reset.iu.lastStart = some 0#32 := by
  decide +kernel

/-- The defaults of Table 9-2 as fields. -/
def defaultFields : SettingsFields :=
  ⟨1#8, 1#8, 0#8, 0#8, 1#8, 1000#16, 450#16, 150#16, 350#16, 0#16, 60#16, 30#16, 0xFFF6#16, 300#16, 1#8, 0#8, 2#8, 2#8⟩

theorem test_witness_LoadUnitSettings :
    (defaultFields.relayEnable.toNat ≤ 1 ∧ defaultFields.polarity.toNat ≤ 2 ∧ defaultFields.runProfile.toNat ≤ 3
        ∧ defaultFields.quietProfile.toNat ≤ 3 ∧ defaultFields.autoWake.toNat ≤ 1 ∧ defaultFields.pumpFitted.toNat ≤ 1
        ∧ settingsInRange Settings.defaults = true)
      ∧ settingsInRange { Settings.defaults with edges := 3 } = false ∧ 0 < (blowerIn .running 1).bd.applied
      ∧ State.reset.bd.applied = 0
      ∧ ((roomIn .held none none).lastAccept = some 0#32 ∧ (59999#32 - 0#32).toNat < 60 * 1000
        ∧ 60 * 1000 ≤ (60000#32 - 0#32).toNat ∧ (roomIn .fresh none none).sample ≠ .held)
      ∧ (readySequencer .running).compressor = true ∧ State.reset.ds.compressor = false
      ∧ (answer (payloadLoadUnitSettings defaultFields) State.reset).state.mc.settings = Settings.defaults := by
  decide +kernel

theorem test_witness_ServiceDrives :
    State.reset.mc.mode ≠ .service ∧ (modeIn .service).mc.mode = .service ∧ 1000 < (1001#16).toNat ∧ (1000#16).toNat ≤ 1000
      ∧ ([(5#8, 2000#16)].length ≤ 255 ∧ (∀ t ∈ [(5#8, 2000#16)], t.1.toNat < 6) ∧ (∀ t ∈ [(5#8, 2000#16)], t.2.toNat ≤ 2000)
        ∧ ([(5#8, 2000#16)].map Prod.fst).Nodup)
      ∧ (∃ t ∈ [(6#8, 2000#16)], 6 ≤ t.1.toNat) ∧ (∃ t ∈ [(5#8, 2001#16)], 2000 < t.2.toNat)
      ∧ ¬ ([(5#8, 1#16), (5#8, 2#16)].map Prod.fst).Nodup
      ∧ ({ bladeIn .unhomed none none 0 with homeSwitch := true } : Damper).homeSwitch = true
      ∧ State.reset.tm.level = .unsettled ∧ (tankAt .normal .off).level ≠ .absent ∧ (tankAt .normal .off).level ≠ .unsettled
      ∧ ({ tankAt .normal .running with serviceRun := true } : Tank).serviceRun = true
      ∧ Sequencer.reset.service = false ∧ Sequencer.reset.tankBlocked = true
      ∧ ¬ (({ readySequencer .idle with mode := .service } : Sequencer).tankBlocked = true
        ∨ (readySequencer .idle).applied < Settings.defaults.coilMinimum ∨ (readySequencer .idle).state = .lockout) := by
  refine ⟨by decide +kernel, by decide +kernel, by decide +kernel, by decide +kernel,
    ⟨by decide +kernel, by simp, by simp, by simp⟩, ⟨(6#8, 2000#16), by simp⟩, ⟨(5#8, 2001#16), by simp⟩, by simp,
    by decide +kernel, by decide +kernel, by decide +kernel, by decide +kernel, by decide +kernel, by decide +kernel,
    by decide +kernel⟩

theorem test_witness_StoreRequestsAndWrites :
    ((0#8).toNat = 0 ∧ 32 < (33#8).toNat ∧ 1024 < (1024#16).toNat + (1#8).toNat ∧ (992#16).toNat + (32#8).toNat ≤ 1024)
      ∧ ((508#16).toNat < 512 ∧ 1020 < (1024#16).toNat ∧ (514#16).toNat % 4 ≠ 0 ∧ (1020#16).toNat ≤ 1020)
      ∧ (∃ x ∈ pressedStore.queue, ∃ b, x.target = .panel b ∧ b ≠ 604)
      ∧ pressedStore.queue = [⟨.f2, List.replicate 20 0#8⟩, ⟨.bh, List.replicate 8 0#8⟩] ++ ⟨.panel 600, [1#8, 1#8, 1#8, 1#8]⟩ :: []
      ∧ (∀ y ∈ pressedStore.queue, y.target ≠ .f1)
      ∧ (Memory.wf State.reset.nvs.cells = true ∧ State.reset.nvs.current = none ∧ State.reset.nvs.queue = [])
      ∧ (pressedStore.current.map StoreWriting.wordsLeft = some (4 + 1)
        ∧ 4 * 4 + 4 ≤ (List.replicate 20 1#8).length) := by
  refine ⟨by decide +kernel, by decide +kernel, ⟨⟨.panel 600, [1#8, 1#8, 1#8, 1#8]⟩, by decide +kernel, 600,
    by decide +kernel⟩, by decide +kernel,
    by decide +kernel, by decide +kernel, by decide +kernel⟩

theorem test_witness_StoreIsKept :
    Memory.wf pressedStore.cells = true ∧ writeQueueInvariant pressedStore
      ∧ (∀ x ∈ pressedStore.queue, match x.target with
        | .panel a => x.octets.length = 4 ∧ 512 ≤ a ∧ a ≤ 1020 ∧ a % 4 = 0
        | .bh => x.octets.length = 8
        | _ => x.octets.length = 20) := by
  refine ⟨by decide +kernel, by unfold writeQueueInvariant; decide +kernel, ?_⟩
  intro x hx
  simp only [pressedStore, List.mem_cons, List.not_mem_nil, or_false] at hx
  rcases hx with rfl | rfl | rfl <;> simp

theorem test_witness_PanelOctets :
    (linkIn { Panel.reset with receiver := .assembling [0x3C#8] 0 }).pl.receiver = .assembling [0x3C#8] 0
      ∧ State.reset.pl.receiver = .hunting ∧ 56 < (57#8).toNat ∧ (56#8).toNat ≤ 56
      ∧ (linkIn { Panel.reset with receiver := .assembling [0x3C#8] 11 }).pl.receiver = .assembling [0x3C#8] 11
      ∧ ([1#8, 5#8].length + 3 < 6 + (1#8).toNat)
      ∧ ([1#8, 5#8, 0x15#8, 0#8] ++ [0#8] = 1#8 :: 5#8 :: [0x15#8] ++ [0#8, 0#8] ∧ [0x15#8].length = (1#8).toNat)
      ∧ octets16 (checkOf (0x3C#8 :: 1#8 :: 1#8 :: 5#8 :: [0x15#8])) ≠ [0#8, 0#8] := by
  decide +kernel

theorem test_witness_RequestFrames :
    (State.reset.pl.receiver = .hunting ∧ (List.replicate 56 0#8).length ≤ 56 ∧ ([] : List Byte).length ≤ 56)
      ∧ (requestTag (.restart 5#8) = some 5#8 ∧ requestPayload (.restart 5#8) = some [0x1C#8])
      ∧ (∀ x, octets16 x = [x.extractLsb' 8 8, x.extractLsb' 0 8])
      ∧ (∀ x, octets24 x = [x.extractLsb' 16 8, x.extractLsb' 8 8, x.extractLsb' 0 8])
      ∧ ∀ x, octets32 x = [x.extractLsb' 24 8, x.extractLsb' 16 8, x.extractLsb' 8 8, x.extractLsb' 0 8] := by
  refine ⟨by decide +kernel, ⟨rfl, rfl⟩, fun _ => rfl, fun _ => rfl, fun _ => rfl⟩

theorem test_witness_RequestQueue :
    (countFrames .reply (repliesOf 4) = 4 ∧ ([1#8, 2#8, 3#8, 4#8].map fun t => (⟨t, []⟩ : Request)).length = 4)
      ∧ State.reset.pl.requests.length < 4
      ∧ (requestTag (.readCounters 7#8) = some 7#8 ∧ requestPayload (.readCounters 7#8) = some [0x10#8])
      ∧ ((0#8 : Byte) = 0#8 ∧ 0x1C < (0x1D#8).toNat)
      ∧ (requestOf 0x15#8).isSome = true ∧ (requestOf 0x15#8).bind fixedLength = some 1 ∧ [0x15#8, 0#8].length ≠ 1
      ∧ countFrames .reply (repliesOf 3) < 4 := by
  decide +kernel

theorem test_witness_RepliesAndErrors :
    State.reset.pl.sending.isSome = true ∧ 4 ≤ countFrames .notice (List.replicate 4 ⟨.notice, 0#8, []⟩)
      ∧ Panel.reset.sending = none ∧ Panel.reset.upward = []
      ∧ (answer [0x15#8, 0#8] State.reset).status = .badLength ∧ (answer [0x0F#8] State.reset).status = .done
      ∧ (answer (payloadSetZoneTargets 0#8 501#16 500#16) State.reset).status = .clamped := by
  decide +kernel

/-- A busy link with a notice masked and one not. -/
def busyLink : Panel := { Panel.reset with
  sending := some ⟨⟨.relay, 0#8, []⟩, 1⟩, mask := 1#24, pending := [⟨.nodeLost, some 1#8⟩, ⟨.tankFull, none⟩]
  upward := List.replicate 3 ⟨.notice, 0#8, []⟩ }

theorem test_witness_NoticesAndFrames :
    busyLink.sending = some ⟨⟨.relay, 0#8, []⟩, 1⟩ ∧ busyLink.mask.getLsbD (noticeCode .nodeLost) = true
      ∧ busyLink.mask.getLsbD (noticeCode .tankFull) = false
      ∧ busyLink.pending = [⟨.nodeLost, some 1#8⟩] ++ ⟨.tankFull, none⟩ :: []
      ∧ countFrames .notice busyLink.upward = 3
      ∧ (let four : Panel := { busyLink with upward := List.replicate 4 ⟨.notice, 0#8, []⟩ }
         four.upward = ⟨.notice, 0#8, []⟩ :: List.replicate 3 ⟨.notice, 0#8, []⟩ ∧ four.requests = []
           ∧ countFrames .notice (List.replicate 3 ⟨.notice, 0#8, []⟩) = 3 ∧ four.restartPending = false
           ∧ ¬ countFrames .notice four.upward < 4)
      ∧ (countFrames .relay (List.replicate 15 ⟨.relay, 0#8, []⟩) < 16 ∧ 16 ≤ countFrames .relay (List.replicate 16 ⟨.relay, 0#8, []⟩))
      ∧ Panel.reset.sending = none ∧ State.reset.pl.upward ≠ [] ∧ Panel.reset.upward = []
      ∧ ((0x040000#24 &&& 0xFC0000#24) ≠ 0#24 ∧ (0x03FFFF#24 &&& 0xFC0000#24) = 0#24) := by
  decide +kernel

theorem test_witness_QueueBoundsAreKept :
    upwardInvariant State.reset.pl = true ∧ noticesDistinct State.reset.pl ∧ queuesBounded State.reset := by
  unfold noticesDistinct queuesBounded
  decide +kernel

theorem test_witness_TablesAndAccountsAreKept :
    tablesInRange State.reset = true ∧ filtersInvariant State.reset.fs = true := by decide +kernel

theorem test_witness_LineRequests :
    ((0#8).toNat = 0 ∧ 31 < (32#8).toNat ∧ (31#8).toNat ≤ 31 ∧ 18 < (19#8).toNat
        ∧ (18#8).toNat = (List.replicate 18 0#8).length ∧ (2#8).toNat ≠ [0#8].length)
      ∧ 4 ≤ (List.replicate 4 (⟨1#8, []⟩ : NodeMessage)).length ∧ State.reset.iu.down.length < 4
      ∧ State.reset.iu.phase ≠ .idle ∧ (lineIn .idle).iu.startDue = false
      ∧ State.reset.mc.mode ≠ .service ∧ (modeIn .service .inject).mc.source = .inject
      ∧ findNode (2#8).toNat State.reset.iu.nodes = none ∧ findNode (1#8).toNat State.reset.iu.nodes = some (NodeRecord.fresh 1 .either)
      ∧ intervalNow (modeIn .service .inject) = none ∧ intervalNow State.reset = some 10000
      ∧ ({ State.reset.iu with pollList := [] } : Intake).pollList = [] := by
  decide +kernel

theorem test_witness_ClearsAndRestart :
    ((0x040000#24 &&& 0xFC0000#24) ≠ 0#24 ∧ (0x03FFFF#24 &&& 0xFC0000#24) = 0#24)
      ∧ (modeIn .run).mc.mode ≠ .off ∧ State.reset.mc.mode = .off ∧ State.reset.ds.state ≠ .lockout
      ∧ (dryingIn { Sequencer.reset with state := .lockout } .off).ds.mode = .off
      ∧ (tankIn (tankAt .high .fault)).tm.pump = .fault ∧ State.reset.tm.pump ≠ .fault
      ∧ ({ Settings.defaults with pumpFitted := true } : Settings).pumpFitted = true ∧ Settings.defaults.pumpFitted = false := by
  decide +kernel

theorem test_witness_ReadRequests :
    findNode (1#8).toNat State.reset.iu.nodes = some (NodeRecord.fresh 1 .either) ∧ findNode (2#8).toNat State.reset.iu.nodes = none
      ∧ 6 ≤ (6#8).toNat ∧ (5#8).toNat = (5 : Fin 6).val ∧ (3#8 ≠ 1#8 ∧ 3#8 ≠ 2#8) := by
  decide +kernel

theorem test_witness_TablesAndStatus :
    5 < (6#8).toNat ∧ 4 ≤ (4#8).toNat ∧ (3#8).toNat = (3 : Fin 4).val ∧ 6 ≤ (6#8).toNat ∧ (5#8).toNat = (5 : Fin 6).val
      ∧ 4 < (5#8).toNat := by
  decide +kernel

end Sys2Proof.Tests
end

/-! The Zone Table and Demand Unit: what the two Requests on the zone table do when the link is ready (R26, R27, R29), and
the duty that a demand update demands (R39). -/
namespace Sys2Proof.Machine

/-! ### A Request at a link that is ready -/

/-- A Request of a fixed length that arrives at a ready link has its owner's Reply placed in the same command (R168). -/
theorem receiveRequest_owner (tag number : Byte) (fields : List Byte) (kind : RequestKind) (s : State)
    (hr : linkReady s.pl = true) (hk : requestOf number = some kind)
    (hl : lengthHolds kind (number :: fields) = true) :
    receiveRequest tag (number :: fields) s = replyWith tag number (ownerAnswer kind fields s).status
      (ownerAnswer kind fields s).data (ownerAnswer kind fields s).state := by
  rw [receiveRequest_ready tag _ s hr, takeRequest_owner tag number fields kind s hk hl]

/-- The number of a zone or damper, 0 to 5, names it. -/
theorem sixOf_of_toNat (o : Byte) (i : Fin 6) (h : o.toNat = i.val) : sixOf o = some i := by
  rw [sixOf_eq o (h ▸ i.isLt)]
  exact congrArg some (Fin.ext h)

/-- A yes/no octet is 0 or 1, and yes is 1. -/
theorem boolOf_eq (o : Byte) : boolOf o = if o.toNat ≤ 1 then some (decide (o = 1#8)) else none := by
  unfold boolOf
  by_cases h0 : o = 0#8
  · subst h0; rfl
  by_cases h1 : o = 1#8
  · subst h1; rfl
  have hbig : ¬ o.toNat ≤ 1 := by bv_omega
  simp [h0, h1, hbig]

/-! ### Set Zone Targets (R27) -/

section Targets
variable (tag zone : Byte) (pm rh : Half) (s : State)

/-- The fields of Set Zone Targets after its number (Table 11-5). -/
def zoneTargetsFields : List Byte := [zone, hi pm, lo pm, hi rh, lo rh]

theorem exec_setZoneTargets_ready (hr : linkReady s.pl = true) :
    exec (.setZoneTargets tag zone pm rh) s =
      .next (replyWith tag 0x02#8 (answerZoneTargets (zoneTargetsFields zone pm rh) s).status
        (answerZoneTargets (zoneTargetsFields zone pm rh) s).data
        (answerZoneTargets (zoneTargetsFields zone pm rh) s).state) :=
  congrArg Host.Outcome.next
    (receiveRequest_owner tag 0x02#8 (zoneTargetsFields zone pm rh) .setZoneTargets s hr rfl rfl)

theorem answerZoneTargets_badIndex (h : 6 ≤ zone.toNat) :
    answerZoneTargets (zoneTargetsFields zone pm rh) s = refuse .badIndex s := by
  simp [answerZoneTargets, zoneTargetsFields, sixOf_none zone h]

/-- A zone with other targets in its entry; its runtime record stays. -/
def withTargets (pm rh : Nat) (z : Zone) : Zone := { z with entry := { z.entry with pmTarget := pm, rhTarget := rh } }

/-- Both targets are clamped and stored, and a demand update follows (R27). -/
theorem answerZoneTargets_zone (i : Fin 6) (h : zone.toNat = i.val) :
    answerZoneTargets (zoneTargetsFields zone pm rh) s =
      ⟨if clampNat 5 500 pm.toNat = pm.toNat ∧ clampNat 300 700 rh.toNat = rh.toNat then .done else .clamped, [],
        settle [.demandUpdate] { s with dmu := { s.dmu with
          zones := s.dmu.zones.set i
            (withTargets (clampNat 5 500 pm.toNat) (clampNat 300 700 rh.toNat) (s.dmu.zones.get i)) } }⟩ := by
  simp [answerZoneTargets, zoneTargetsFields, withTargets, sixOf_of_toNat zone i h]

end Targets

/-- Settles O20: the owner's answer in its two cases, replied to at the ready link. -/
theorem setZoneTargets : Obligations.SetZoneTargets := by
  unfold Obligations.SetZoneTargets
  intro tag zone pm rh s hr
  rw [exec_setZoneTargets_ready tag zone pm rh s hr]
  constructor
  · intro hz
    rw [answerZoneTargets_badIndex zone pm rh s hz]
    rfl
  · rintro i pm' rh' z z' hz rfl rfl rfl rfl
    rw [answerZoneTargets_zone zone pm rh s i hz]
    rfl

/-! ### Load Zone Entry (R26) -/

section Entry
variable (tag zone enabled address : Byte) (pm : Half) (gain : Byte) (rh : Half) (drying : Byte) (s : State)

/-- The fields of Load Zone Entry after its number (Table 11-5). -/
def zoneEntryFields : List Byte :=
  [zone, enabled, address, hi pm, lo pm, gain, hi rh, lo rh, drying]

/-- The fields other than the sensor node address lie in the ranges of Table 2-1 (R26 step 2). -/
def zoneFieldsInRange : Prop :=
  enabled.toNat ≤ 1 ∧ drying.toNat ≤ 1 ∧ 5 ≤ pm.toNat ∧ pm.toNat ≤ 500 ∧ 1 ≤ gain.toNat
    ∧ 300 ≤ rh.toNat ∧ rh.toNat ≤ 700

/-- The entry that the six fields spell (Table 2-1). -/
def spelledEntry : ZoneEntry :=
  ⟨decide (enabled = 1#8), address.toNat, pm.toNat, gain.toNat, rh.toNat, decide (drying = 1#8)⟩

theorem exec_loadZoneEntry_ready (hr : linkReady s.pl = true) :
    exec (.loadZoneEntry tag zone enabled address pm gain rh drying) s =
      .next (replyWith tag 0x03#8
        (answerZoneEntry (zoneEntryFields zone enabled address pm gain rh drying) s).status
        (answerZoneEntry (zoneEntryFields zone enabled address pm gain rh drying) s).data
        (answerZoneEntry (zoneEntryFields zone enabled address pm gain rh drying) s).state) :=
  congrArg Host.Outcome.next
    (receiveRequest_owner tag 0x03#8 (zoneEntryFields zone enabled address pm gain rh drying) .loadZoneEntry s hr rfl rfl)

theorem zoneEntryOf_inRange (h : zoneFieldsInRange enabled pm gain rh drying) :
    zoneEntryOf (zoneEntryFields zone enabled address pm gain rh drying) =
      some (spelledEntry enabled address pm gain rh drying) := by
  obtain ⟨hen, hdry, hwords⟩ := h
  simp [zoneEntryOf, zoneEntryFields, boolOf_eq, hen, hdry, hwords, spelledEntry]

theorem zoneEntryOf_outOfRange (h : ¬ zoneFieldsInRange enabled pm gain rh drying) :
    zoneEntryOf (zoneEntryFields zone enabled address pm gain rh drying) = none := by
  by_cases hen : enabled.toNat ≤ 1
  · by_cases hdry : drying.toNat ≤ 1
    · have hwords : ¬ (5 ≤ pm.toNat ∧ pm.toNat ≤ 500 ∧ 1 ≤ gain.toNat ∧ 300 ≤ rh.toNat ∧ rh.toNat ≤ 700) :=
        fun hw => h ⟨hen, hdry, hw⟩
      simpa [zoneEntryOf, zoneEntryFields, boolOf_eq, hen, hdry] using hwords
    · simp [zoneEntryOf, zoneEntryFields, boolOf_eq, hdry]
  · simp [zoneEntryOf, zoneEntryFields, boolOf_eq, hen]

/-- Step 1 of R26. -/
theorem answerZoneEntry_badZone (h : 6 ≤ zone.toNat) :
    answerZoneEntry (zoneEntryFields zone enabled address pm gain rh drying) s = refuse .badIndex s := by
  simp [answerZoneEntry, zoneEntryFields, sixOf_none zone h]

section KnownZone
variable (i : Fin 6) (hz : zone.toNat = i.val)
include hz

/-- Step 2 of R26. -/
theorem answerZoneEntry_badTable (hout : ¬ zoneFieldsInRange enabled pm gain rh drying) :
    answerZoneEntry (zoneEntryFields zone enabled address pm gain rh drying) s = refuse .badTable s := by
  unfold answerZoneEntry
  rw [zoneEntryOf_outOfRange zone enabled address pm gain rh drying hout]
  simp [zoneEntryFields, sixOf_of_toNat zone i hz]

variable (e : ZoneEntry) (he : e = spelledEntry enabled address pm gain rh drying)
  (hin : zoneFieldsInRange enabled pm gain rh drying)
include he hin

/-- Step 3 of R26. -/
theorem answerZoneEntry_badAddress (hn : e.node ≠ 0) (hbad : 30 < e.node ∨ findNode e.node s.iu.nodes = none) :
    answerZoneEntry (zoneEntryFields zone enabled address pm gain rh drying) s = refuse .badIndex s := by
  subst he
  unfold answerZoneEntry
  rw [zoneEntryOf_inRange zone enabled address pm gain rh drying hin]
  simp [zoneEntryFields, sixOf_of_toNat zone i hz, hn, hbad]

/-- The entry is replaced, its zone bound, and a demand update follows (R26 step 4). -/
theorem answerZoneEntry_bound (hgood : e.node = 0 ∨ (e.node ≤ 30 ∧ ∃ r, findNode e.node s.iu.nodes = some r)) :
    answerZoneEntry (zoneEntryFields zone enabled address pm gain rh drying) s =
      carried (settle [.demandUpdate] { s with dmu := { s.dmu with
        zones := s.dmu.zones.set i (bindZone s.mc.settings.holdTime s.iu.timeBase (findNode e.node s.iu.nodes)
          { s.dmu.zones.get i with entry := e }) } }) := by
  have hpass : ¬ (e.node ≠ 0 ∧ (30 < e.node ∨ findNode e.node s.iu.nodes = none)) := by
    rintro ⟨hn, hbad⟩
    obtain h0 | ⟨h30, r, hr⟩ := hgood
    · exact hn h0
    · obtain hbig | hnone := hbad
      · omega
      · simp [hr] at hnone
  subst he
  unfold answerZoneEntry
  rw [zoneEntryOf_inRange zone enabled address pm gain rh drying hin]
  simp only [zoneEntryFields, byteAt_zero, sixOf_of_toNat zone i hz, if_neg hpass]

end KnownZone

end Entry

/-! ### The binding of a zone to its node (R29) -/

section Binding
variable (seconds : Nat) (now : Word) (z : Zone)

theorem withinHold_some (t : Word) : withinHold seconds now (some t) = decide ((now - t).toNat < seconds * 1000) := rfl

/-- The zone without the values of a reading. -/
def withoutValues : Zone :=
  { z with pm25 := none, rh := none, temperature := none, lastAccept := none, holdExpiry := none }

/-- The zone with the last values of a node record and no hold expiry. -/
def withValuesOf (r : NodeRecord) : Zone :=
  { z with
    pm25 := r.last.pm25, rh := r.last.rh, temperature := r.last.temperature, lastAccept := r.lastAccept
    holdExpiry := none }

theorem bindZone_noNode (found : Option NodeRecord) (h : z.entry.node = 0) :
    bindZone seconds now found z = { withoutValues z with sample := .noNode } := by
  simp [bindZone, withoutValues, h]

variable (r : NodeRecord) (hn : z.entry.node ≠ 0)
include hn

theorem bindZone_live (h : r.state = .live) :
    bindZone seconds now (some r) z = { withValuesOf z r with sample := .fresh } := by
  simp [bindZone, withValuesOf, hn, h]

theorem bindZone_unknown (h : r.state = .unknown) :
    bindZone seconds now (some r) z = { withoutValues z with sample := .stale } := by
  simp [bindZone, withoutValues, hn, h]

/-- A node that no longer answers: its last values hold for the hold time after its last accept time. -/
theorem bindZone_silent (h : r.state = .missing ∨ r.state = .lost) :
    bindZone seconds now (some r) z =
      if withinHold seconds now r.lastAccept then
        { withValuesOf z r with sample := .held, holdExpiry := holdExpiryOf seconds (withValuesOf z r) }
      else { withValuesOf z r with sample := .stale } := by
  obtain h | h := h <;> simp [bindZone, withValuesOf, hn, h]

theorem bindZone_held (t : Word) (h : r.state = .missing ∨ r.state = .lost) (ht : r.lastAccept = some t)
    (hnow : (now - t).toNat < seconds * 1000) :
    bindZone seconds now (some r) z =
      { withValuesOf z r with sample := .held, holdExpiry := some (t + BitVec.ofNat 32 (seconds * 1000)) } := by
  rw [bindZone_silent seconds now z r hn h]
  rw [ht, withinHold_some, if_pos (decide_eq_true hnow)]
  simp [holdExpiryOf, withValuesOf, after, ht]

theorem bindZone_stale (h : r.state = .missing ∨ r.state = .lost) (hold : withinHold seconds now r.lastAccept = false) :
    bindZone seconds now (some r) z = { withValuesOf z r with sample := .stale } := by
  rw [bindZone_silent seconds now z r hn h]
  simp [hold]

end Binding

/-- Settles O21: the owner's answer check by check, then the binding by the state of the node's record. -/
theorem loadZoneEntry : Obligations.LoadZoneEntry := by
  unfold Obligations.LoadZoneEntry
  refine ⟨?checks, ?binding⟩
  case checks =>
    intro tag zone enabled address pm gain rh drying s inRange e hr hrange he
    rw [exec_loadZoneEntry_ready tag zone enabled address pm gain rh drying s hr]
    refine ⟨fun hz => ?badZone, fun i hz => ⟨fun hout => ?badTable, fun hin hn hbad => ?badAddress,
      fun hin hgood => ?bound⟩⟩
    case badZone =>
      rw [answerZoneEntry_badZone zone enabled address pm gain rh drying s hz]; rfl
    case badTable =>
      rw [answerZoneEntry_badTable zone enabled address pm gain rh drying s i hz (mt hrange.mpr hout)]; rfl
    case badAddress =>
      rw [answerZoneEntry_badAddress zone enabled address pm gain rh drying s i hz e he (hrange.mp hin) hn hbad]; rfl
    case bound =>
      rw [answerZoneEntry_bound zone enabled address pm gain rh drying s i hz e he (hrange.mp hin) hgood]; rfl
  case binding =>
    rintro seconds now found r z empty copy rfl rfl
    refine ⟨bindZone_noNode seconds now z found, bindZone_live seconds now z r, bindZone_unknown seconds now z r,
      fun t hn => bindZone_held seconds now z r hn t, fun t hn hs ht hlate => ?late, fun hn hs hnever => ?never⟩
    case late => exact bindZone_stale seconds now z r hn hs (by rw [ht, withinHold_some]; simpa only [decide_eq_false_iff_not, not_lt] using hlate)
    case never => exact bindZone_stale seconds now z r hn hs (by simp [withinHold, hnever])

/-! ### The demanded duty (R37, R39) -/

@[simp] theorem zoneOpening_d (someZone : Bool) (e : DamperEntry) (z : Zone) : (zoneOpening someZone e z).d = z.d := rfl

theorem cleaningDemand_le (missing : Bool) (e : ZoneEntry) (pm25 : Option Nat) : cleaningDemand missing e pm25 ≤ 1000 := by
  unfold cleaningDemand
  split
  · omega
  · split <;> omega

theorem dryingDemand_le (active : Bool) (e : ZoneEntry) (err : Option Int) : dryingDemand active e err ≤ 1000 := by
  unfold dryingDemand
  split
  · omega
  · split <;> omega

/-- A zone demand lies in 0 to 1000 (R35 to R37). -/
theorem zoneDemands_d_le (missing active : Bool) (z : Zone) : (zoneDemands missing active z).d ≤ 1000 := by
  have hc := cleaningDemand_le missing z.entry z.pm25
  have hd := dryingDemand_le active z.entry (dryingError z.entry z.rh)
  unfold zoneDemands
  split
  · dsimp only
    split <;> omega
  · exact Nat.zero_le _

theorem le_largestOf (zones : Six Zone) (i : Fin 6) : (zones.get i).d ≤ largestOf zones := by
  match i with
  | 0 | 1 | 2 | 3 | 4 | 5 => simp only [Six.get, largestOf]; omega

theorem exists_eq_largestOf (zones : Six Zone) : ∃ i, (zones.get i).d = largestOf zones := by
  have hsome : largestOf zones = zones.z0.d ∨ largestOf zones = zones.z1.d ∨ largestOf zones = zones.z2.d
      ∨ largestOf zones = zones.z3.d ∨ largestOf zones = zones.z4.d ∨ largestOf zones = zones.z5.d := by
    unfold largestOf
    omega
  obtain h | h | h | h | h | h := hsome
  exacts [⟨0, h.symm⟩, ⟨1, h.symm⟩, ⟨2, h.symm⟩, ⟨3, h.symm⟩, ⟨4, h.symm⟩, ⟨5, h.symm⟩]

theorem route_demandUpdate_dmu (s : State) : (route .demandUpdate s).1.dmu = recompute s.mc s.dp.dampers s.dmu := rfl

theorem route_demandUpdate_deliveries (s : State) :
    (route .demandUpdate s).2 = updateDeliveries s.mc.mode s.dmu (recompute s.mc s.dp.dampers s.dmu) := rfl

section Recompute
variable (mc : ModeControl) (dampers : Six Damper) (dmu : Demand)

theorem recompute_demandedDuty :
    (recompute mc dampers dmu).demandedDuty =
      dutyOf mc.settings mc.mode dmu.dryingActive (recompute mc dampers dmu).largest := rfl

/-- The openings computed after D leave the zone demands as they are. -/
theorem recompute_d (i : Fin 6) :
    ((recompute mc dampers dmu).zones.get i).d =
      (zoneDemands dmu.filterMissing dmu.dryingActive (dmu.zones.get i)).d := by
  simp [recompute]

theorem recompute_largest :
    (recompute mc dampers dmu).largest = largestOf (recompute mc dampers dmu).zones := rfl

theorem recompute_largest_le :
    (recompute mc dampers dmu).largest ≤ 1000 := by
  obtain ⟨i, hi⟩ := exists_eq_largestOf (recompute mc dampers dmu).zones
  rw [recompute_largest, ← hi, recompute_d]
  exact zoneDemands_d_le _ _ _

end Recompute

/-- The duty between the idle duty and the cap that a demand of at most 1000 asks for is no negative number, though the cap
may be below the idle duty. -/
theorem scaledDuty_nonneg (idle cap d : Nat) (hd : d ≤ 1000) :
    0 ≤ (idle : Int) + ((d : Int) * ((cap : Int) - idle)).tdiv 1000 := by
  have hlow : 1000 * -(idle : Int) ≤ (d : Int) * ((cap : Int) - idle) := by nlinarith
  have htdiv : -(idle : Int) ≤ ((d : Int) * ((cap : Int) - idle)).tdiv 1000 := by
    calc -(idle : Int) = (1000 * -(idle : Int)).tdiv 1000 := (Int.mul_tdiv_cancel_left _ (by decide)).symm
      _ ≤ ((d : Int) * ((cap : Int) - idle)).tdiv 1000 := Int.tdiv_le_tdiv (by decide) hlow
  omega

theorem dutyOf_of_noCap (u : Settings) (mode : UnitMode) (active : Bool) (d : Nat) (h : dutyCap u mode = none) :
    dutyOf u mode active d = 0 := by
  simp [dutyOf, h]

theorem dutyOf_of_cap (u : Settings) (mode : UnitMode) (active : Bool) (d cap : Nat) (h : dutyCap u mode = some cap)
    (hd : d ≤ 1000) (base : Int)
    (hbase : base = if d = 0 then (u.idleDuty : Int)
      else u.idleDuty + ((d : Int) * ((cap : Int) - u.idleDuty)).tdiv 1000) :
    (dutyOf u mode active d : Int) = min (cap : Int) (if active = true then max (u.coilMinimum : Int) base else base) := by
  have hnat : ((if d = 0 then u.idleDuty
      else ((u.idleDuty : Int) + ((d : Int) * ((cap : Int) - u.idleDuty)).tdiv 1000).toNat : Nat) : Int) = base := by
    rw [hbase]
    split
    · rfl
    · exact Int.toNat_of_nonneg (scaledDuty_nonneg u.idleDuty cap d hd)
  simp only [dutyOf, h]
  cases active <;> simp [hnat]

/-- Settles O18: D is the largest of the six zone demands and at most 1000, so the sum of R39 is a number of 0 or more. -/
theorem demandedDuty : Obligations.DemandedDuty := by
  unfold Obligations.DemandedDuty
  rintro s u D cap base rfl rfl hcap hbase
  simp only [route_demandUpdate_dmu, route_demandUpdate_deliveries] at hbase ⊢
  refine ⟨le_largestOf _, exists_eq_largestOf _, fun hmode => ?idle, fun hmode => ?driven, ?duty, ?largest⟩
  case idle =>
    rw [recompute_demandedDuty]
    apply dutyOf_of_noCap
    rcases hmode with h | h | h <;> rw [h] <;> rfl
  case driven =>
    rw [recompute_demandedDuty]
    refine dutyOf_of_cap _ _ _ _ cap ?_ (recompute_largest_le _ _ _) base hbase
    rcases hmode with h | h <;> simp [dutyCap, h, hcap]
  case duty => simp [updateDeliveries]
  case largest => simp [updateDeliveries]

end Sys2Proof.Machine

/-! The dampers: what every operation of the Damper Positioner keeps of a damper's law (R73, R74, R77) and of its part in the
air allowance (R50, R79), each said once for the functions that the operations are made of. -/
namespace Sys2Proof.Machine

/-! ### The invariant of one damper in propositions -/

theorem damperInvariant_iff (d : Damper) :
    damperInvariant d = true ↔
      (∀ t, d.target = some t → t ≤ d.entry.travel)
      ∧ (d.state = .settled → ∃ p, d.position = some p ∧ p ≤ d.entry.travel ∧ d.share ≤ openingOfSteps d.entry.travel p)
      ∧ (d.state = .moving → ∃ p, d.position = some p ∧ p ≤ d.entry.travel ∧ d.share ≤ requiredOpening d)
      ∧ (d.state = .waiting → ∃ p, d.position = some p ∧ p ≤ d.entry.travel) := by
  unfold damperInvariant
  cases d.target <;> cases d.position <;> cases d.state <;> simp

/-- What a damper adds to the law of the allowance beside its invariant (R77, R78, R81, R82). -/
structure AllowanceShare (d : Damper) : Prop where
  waiting : d.state = .waiting → d.pending ≤ d.share ∧ coveredOf d ≤ d.share
  other : d.state ≠ .waiting → d.pending = 0 ∧ d.covered = none
  unknown : d.state = .unfitted ∨ d.state = .unhomed ∨ d.state = .homing ∨ d.state = .faulted → d.share = 0
  seek : d.state = .moving → d.seeking = true → d.position = some 0

theorem damperAllowance_iff (d : Damper) :
    damperAllowance d = true ↔ damperInvariant d = true ∧ AllowanceShare d := by
  constructor
  · intro h
    simp only [damperAllowance, Bool.and_eq_true] at h
    obtain ⟨⟨⟨hinv, hwait⟩, hshare⟩, hseek⟩ := h
    refine ⟨hinv, ⟨fun hs => ?_, fun hs => ?_, fun hs => ?_, fun hm hs => ?_⟩⟩
    · simpa [hs] using hwait
    · simpa [hs] using hwait
    · rcases hs with hs | hs | hs | hs <;> simpa [hs] using hshare
    · simpa [hm, hs] using hseek
  · rintro ⟨hinv, hwait, hother, hshare, hseek⟩
    simp only [damperAllowance, hinv, Bool.true_and, Bool.and_eq_true]
    refine ⟨⟨?_, ?_⟩, ?_⟩
    · by_cases hs : d.state = .waiting
      · simpa [hs] using hwait hs
      · simpa [hs] using hother hs
    · cases hd : d.state <;> simp_all
    · cases hm : d.state <;> cases hs : d.seeking <;> simp_all

/-- The covered reduction of a damper is at most its share. -/
theorem AllowanceShare.covered_le {d : Damper} (h : AllowanceShare d) : coveredOf d ≤ d.share := by
  by_cases hs : d.state = .waiting
  · exact (h.waiting hs).2
  · simp [coveredOf, (h.other hs).2]

/-! ### What an operation keeps of a damper -/

/-- An operation keeps the table entry, the damper's law, and with its part in the allowance what its share leaves over its
covered reduction. -/
structure DamperKept (d d' : Damper) : Prop where
  entry : d'.entry = d.entry
  law : damperInvariant d = true → damperInvariant d' = true
  allowance : damperInvariant d = true → AllowanceShare d →
    AllowanceShare d' ∧ coveredOf d' + d.share ≤ coveredOf d + d'.share

theorem DamperKept.refl (d : Damper) : DamperKept d d := ⟨rfl, id, fun _ h => ⟨h, by omega⟩⟩

theorem openingOfSteps_le {a b : Nat} (travel : Nat) (h : a ≤ b) : openingOfSteps travel a ≤ openingOfSteps travel b :=
  Nat.div_le_div_right (Nat.mul_le_mul_right 1000 h)

@[simp] theorem openingOfSteps_zero (travel : Nat) : openingOfSteps travel 0 = 0 := by simp [openingOfSteps]

@[simp] theorem positionOf_some (d : Damper) (p : Nat) (h : d.position = some p) : positionOf d = p := by simp [positionOf, h]

theorem targetOf_le {d : Damper} (h : ∀ t, d.target = some t → t ≤ d.entry.travel) : targetOf d ≤ d.entry.travel := by
  unfold targetOf
  cases ht : d.target with
  | none => exact Nat.zero_le _
  | some t => exact h t ht

theorem requiredOpening_le_position (d : Damper) :
    requiredOpening d ≤ openingOfSteps d.entry.travel (positionOf d) := Nat.min_le_right ..

/-- A damper that stands still at a known position takes its target: whatever it then does, it meets its law. -/
theorem proceed_law {d : Damper} {p : Nat} (ht : ∀ t, d.target = some t → t ≤ d.entry.travel) (hp : d.position = some p)
    (hle : p ≤ d.entry.travel) : damperInvariant (proceed d) = true := by
  rw [damperInvariant_iff]
  unfold proceed decideClose arrive settleHere enterWaiting
  grind [requiredOpening, positionOf, targetOf]


/-- A damper that stands still and waits for nothing takes its target with no less share than it had. -/
theorem proceed_allowance {d : Damper} {p : Nat} (hp : d.position = some p) (hpend : d.pending = 0)
    (hcov : d.covered = none) :
    AllowanceShare (proceed d) ∧ coveredOf (proceed d) = 0 ∧ d.share ≤ (proceed d).share := by
  unfold proceed decideClose arrive settleHere enterWaiting coveredOf
  refine ⟨⟨?_, ?_, ?_, ?_⟩, ?_, ?_⟩ <;> grind [requiredOpening, positionOf, targetOf, coveredOf, openingOfSteps_zero]

@[simp] theorem proceed_entry (d : Damper) : (proceed d).entry = d.entry := by
  unfold proceed decideClose arrive settleHere enterWaiting
  grind

/-- Homing that has found the closed position leaves a damper with its law and a share of 0, whatever it was before. -/
theorem homeFound_law {d : Damper} (ht : ∀ t, d.target = some t → t ≤ d.entry.travel) :
    damperInvariant (homeFound d) = true := by
  unfold homeFound
  dsimp only
  split
  · exact proceed_law (p := 0) ht rfl (Nat.zero_le _)
  · rw [damperInvariant_iff]; simp_all

theorem homeFound_allowance {d : Damper} (hpend : d.pending = 0) (hcov : d.covered = none) :
    AllowanceShare (homeFound d) ∧ coveredOf (homeFound d) = 0 := by
  unfold homeFound
  dsimp only
  split
  · obtain ⟨h, hc, -⟩ := proceed_allowance (d := { d with
      position := some 0, state := .settled, share := 0, finish := .arrived, seeking := false, stepLeft := none })
      rfl hpend hcov
    exact ⟨h, hc⟩
  · exact ⟨⟨by simp, by simp [hpend, hcov], by simp, by simp⟩, by simp [coveredOf, hcov]⟩

@[simp] theorem homeFound_entry (d : Damper) : (homeFound d).entry = d.entry := by
  unfold homeFound
  dsimp only
  split <;> simp

theorem startHoming_law {d : Damper} (ht : ∀ t, d.target = some t → t ≤ d.entry.travel) :
    damperInvariant (startHoming d) = true := by
  unfold startHoming
  dsimp only
  split
  · exact homeFound_law ht
  · rw [damperInvariant_iff]; simpa using ht

theorem startHoming_allowance {d : Damper} (hpend : d.pending = 0) (hcov : d.covered = none) :
    AllowanceShare (startHoming d) ∧ coveredOf (startHoming d) = 0 := by
  unfold startHoming
  dsimp only
  split
  · exact homeFound_allowance hpend hcov
  · exact ⟨⟨by simp, by simp [hpend, hcov], by simp, by simp⟩, by simp [coveredOf, hcov]⟩

@[simp] theorem startHoming_entry (d : Damper) : (startHoming d).entry = d.entry := by
  unfold startHoming
  dsimp only
  split <;> simp

/-- A Moving damper that takes a new target keeps its law. -/
theorem retargetMove_law {d : Damper} {p : Nat} (ht : ∀ t, d.target = some t → t ≤ d.entry.travel)
    (hs : d.state = .moving) (hp : d.position = some p) (hle : p ≤ d.entry.travel) :
    damperInvariant (retargetMove d) = true := by
  rw [damperInvariant_iff]
  unfold retargetMove decideClose arrive settleHere enterWaiting
  grind [requiredOpening, positionOf, targetOf]

theorem retargetMove_allowance {d : Damper} {p : Nat} (hs : d.state = .moving) (hp : d.position = some p)
    (hpend : d.pending = 0) (hcov : d.covered = none) :
    AllowanceShare (retargetMove d) ∧ coveredOf (retargetMove d) = 0 ∧ d.share ≤ (retargetMove d).share := by
  unfold retargetMove decideClose arrive settleHere enterWaiting coveredOf
  refine ⟨⟨?_, ?_, ?_, ?_⟩, ?_, ?_⟩ <;> grind [requiredOpening, positionOf, targetOf, coveredOf, openingOfSteps_zero]

@[simp] theorem retargetMove_entry (d : Damper) : (retargetMove d).entry = d.entry := by
  unfold retargetMove decideClose arrive settleHere enterWaiting
  grind

/-- A damper with a target recorded. -/
def withTarget (steps : Nat) (d : Damper) : Damper := { d with target := some steps }

/-- A target that is only recorded, at a damper that neither stands at a known position nor moves, changes no law. -/
theorem withTarget_kept {steps : Nat} {d : Damper} (ht : steps ≤ d.entry.travel) (hs : d.state ≠ .settled)
    (hm : d.state ≠ .moving) (hw : d.state ≠ .waiting) : DamperKept d (withTarget steps d) := by
  refine ⟨rfl, fun _ => ?_, fun _ h => ⟨⟨h.waiting, h.other, h.unknown, h.seek⟩, Nat.le_refl _⟩⟩
  rw [damperInvariant_iff]
  refine ⟨fun t h => ?_, fun h => absurd h hs, fun h => absurd h hm, fun h => absurd h hw⟩
  obtain rfl : steps = t := Option.some.inj h
  exact ht

/-- A Waiting damper that takes a new target keeps its law and its share (R77). -/
theorem retargetWaiting_kept {steps : Nat} {d : Damper} (ht : steps ≤ d.entry.travel) (hs : d.state = .waiting) :
    DamperKept d (retargetWaiting (withTarget steps d)) := by
  have hrec : ∀ t, (withTarget steps d).target = some t → t ≤ d.entry.travel := by
    intro t h
    obtain rfl : steps = t := Option.some.inj h
    exact ht
  unfold retargetWaiting
  split
  · refine ⟨rfl, fun h => ?_, fun h ha => ⟨⟨fun _ => ?_, fun h => absurd hs h, ?_, ?_⟩, Nat.le_refl _⟩⟩
    · obtain ⟨-, -, -, hwaiting⟩ := (damperInvariant_iff d).mp h
      rw [damperInvariant_iff]
      exact ⟨hrec, by simp [withTarget, hs], by simp [withTarget, hs], hwaiting⟩
    · exact ⟨Nat.sub_le .., (ha.waiting hs).2⟩
    all_goals simp [withTarget, hs]
  · refine ⟨by simp [withTarget], fun h => ?_, fun h ha => ?_⟩
    all_goals obtain ⟨-, -, -, hwaiting⟩ := (damperInvariant_iff d).mp h
    all_goals obtain ⟨p, hp, hle⟩ := hwaiting hs
    · exact proceed_law hrec hp hle
    · obtain ⟨h1, h2, h3⟩ := proceed_allowance (d := { withTarget steps d with pending := 0, covered := none }) hp rfl rfl
      exact ⟨h1, by rw [h2]; exact Nat.add_le_add (Nat.zero_le _) h3⟩

/-- A target that reaches a damper keeps its law, and what its share leaves over its covered reduction. -/
theorem takeTarget_kept (service : Bool) (target : Nat) (d : Damper) : DamperKept d (takeTarget service target d) := by
  have hle : min target d.entry.travel ≤ d.entry.travel := Nat.min_le_right ..
  have hrec : ∀ t, (withTarget (min target d.entry.travel) d).target = some t → t ≤ d.entry.travel := by
    intro t h
    obtain rfl : min target d.entry.travel = t := Option.some.inj h
    exact hle
  unfold takeTarget
  change DamperKept d (match d.state with
    | .unfitted => d
    | .unhomed => if service then startHoming (withTarget _ d) else withTarget _ d
    | .homing => withTarget _ d
    | .faulted => withTarget _ d
    | .settled => if d.target = some _ then d else proceed (withTarget _ d)
    | .moving => if d.target = some _ then d else retargetMove (withTarget _ d)
    | .waiting => if d.target = some _ then d else retargetWaiting (withTarget _ d))
  split
  next => exact DamperKept.refl d
  next hs =>
    split
    · refine ⟨by simp [withTarget], fun _ => startHoming_law hrec, fun _ h => ?_⟩
      obtain ⟨hpend, hcov⟩ := h.other (by simp [hs])
      obtain ⟨ha, hc⟩ := startHoming_allowance (d := withTarget (min target d.entry.travel) d) hpend hcov
      have := h.unknown (by simp [hs])
      exact ⟨ha, by omega⟩
    · exact withTarget_kept hle (by simp [hs]) (by simp [hs]) (by simp [hs])
  next hs => exact withTarget_kept hle (by simp [hs]) (by simp [hs]) (by simp [hs])
  next hs => exact withTarget_kept hle (by simp [hs]) (by simp [hs]) (by simp [hs])
  next hs =>
    split
    · exact DamperKept.refl d
    · refine ⟨by simp [withTarget], fun h => ?_, fun h ha => ?_⟩
      all_goals obtain ⟨-, hsettled, -, -⟩ := (damperInvariant_iff d).mp h
      all_goals obtain ⟨p, hp, hle, -⟩ := hsettled hs
      · exact proceed_law hrec hp hle
      · obtain ⟨hpend, hcov⟩ := ha.other (by simp [hs])
        obtain ⟨h1, h2, h3⟩ := proceed_allowance (d := withTarget (min target d.entry.travel) d) hp hpend hcov
        exact ⟨h1, by rw [h2]; exact Nat.add_le_add (Nat.zero_le _) h3⟩
  next hs =>
    split
    · exact DamperKept.refl d
    · refine ⟨by simp [withTarget], fun h => ?_, fun h ha => ?_⟩
      all_goals obtain ⟨-, -, hmoving, -⟩ := (damperInvariant_iff d).mp h
      all_goals obtain ⟨p, hp, hle, -⟩ := hmoving hs
      · exact retargetMove_law hrec hs hp hle
      · obtain ⟨hpend, hcov⟩ := ha.other (by simp [hs])
        obtain ⟨h1, h2, h3⟩ := retargetMove_allowance (d := withTarget (min target d.entry.travel) d) hs hp hpend hcov
        exact ⟨h1, by rw [h2]; exact Nat.add_le_add (Nat.zero_le _) h3⟩
  next hs =>
    split
    · exact DamperKept.refl d
    · exact retargetWaiting_kept hle hs

/-- A limit-met report at one damper: its share falls by no more than the covered reduction it gives up (R79). -/
theorem releaseShare_kept (d : Damper) : DamperKept d (releaseShare d) := by
  unfold releaseShare
  split
  next c hs hc =>
    split
    · refine ⟨by simp, fun h => ?_, fun h ha => ?_⟩
      all_goals obtain ⟨ht, -, -, hwaiting⟩ := (damperInvariant_iff d).mp h
      all_goals obtain ⟨p, hp, hle⟩ := hwaiting hs
      · exact proceed_law ht hp hle
      · obtain ⟨h1, h2, h3⟩ := proceed_allowance (d := { d with
          share := d.share - d.pending, pending := 0, covered := none }) hp rfl rfl
        have hcov : coveredOf d = c := by simp [coveredOf, hc]
        dsimp only at h3
        exact ⟨h1, by omega⟩
    · exact DamperKept.refl d
  next => exact DamperKept.refl d

/-- A ramp tick records the reduction taken: it stays at most the share, and no reduction is covered but a pending one. -/
theorem recordCovered_law (d : Damper) :
    (recordCovered d).entry = d.entry ∧ (damperInvariant d = true → damperInvariant (recordCovered d) = true)
    ∧ (AllowanceShare d → AllowanceShare (recordCovered d) ∧ coveredOf (recordCovered d) = d.pending)
    ∧ (recordCovered d).share = d.share := by
  unfold recordCovered
  split
  next hs =>
    refine ⟨rfl, fun h => ?_, fun h => ⟨⟨fun _ => ?_, ?_, ?_, ?_⟩, rfl⟩, rfl⟩
    · rw [damperInvariant_iff] at h ⊢
      exact h
    · exact ⟨(h.waiting hs).1, (h.waiting hs).1⟩
    all_goals simp [hs]
  next hs => exact ⟨rfl, id, fun h => ⟨h, by simp [coveredOf, h.other hs]⟩, rfl⟩

/-! ### Steps -/

/-- Where a move stands after its next step (R70). -/
def steppedPosition (d : Damper) : Nat :=
  if positionOf d < targetOf d then positionOf d + 1
  else if targetOf d < positionOf d then positionOf d - 1 else positionOf d

/-- A moving damper after its next step, the switch showing `home` (R70). -/
def steppedMove (home : Bool) (d : Damper) : Damper :=
  { d with
    homeSwitch := home, position := some (steppedPosition d), towardOpen := decide (positionOf d < targetOf d)
    stepLeft := some moveInterval }

/-- A step of a move, by where it ends (R70, R75, R80, R81). -/
theorem moveStep_moving (i : Fin 6) (home : Bool) {d : Damper} (hs : d.state = .moving) (hseek : d.seeking = false) :
    moveStep i home d =
      if 20 < steppedPosition d ∧ home = true then
        (proceed { steppedMove home d with position := some 0, finish := .slip, stepLeft := none },
          [damperNotice .damperSlip i])
      else if steppedPosition d = 0 then (decideClose (steppedMove home d), [])
      else if steppedPosition d = targetOf d then (arrive (steppedMove home d), [])
      else (steppedMove home d, []) := by
  unfold moveStep
  rw [if_pos ⟨hs, hseek⟩]
  rfl

/-- At a damper that makes no move the command shows the switch alone (log 2). -/
theorem moveStep_other (i : Fin 6) (home : Bool) {d : Damper} (h : ¬ (d.state = .moving ∧ d.seeking = false)) :
    moveStep i home d = ({ d with homeSwitch := home }, []) := by
  unfold moveStep
  rw [if_neg h]

theorem homeSwitch_kept (home : Bool) (d : Damper) : DamperKept d { d with homeSwitch := home } := by
  refine ⟨rfl, fun h => ?_, fun _ h => ⟨⟨h.waiting, h.other, h.unknown, h.seek⟩, Nat.le_refl _⟩⟩
  rw [damperInvariant_iff] at h ⊢
  exact h

/-- A move goes toward its target, within the travel, and its required opening does not fall. -/
theorem steppedPosition_bounds {d : Damper} {p : Nat} (ht : targetOf d ≤ d.entry.travel) (hp : d.position = some p)
    (hle : p ≤ d.entry.travel) :
    steppedPosition d ≤ d.entry.travel ∧ min (targetOf d) p ≤ min (targetOf d) (steppedPosition d) := by
  simp only [steppedPosition, positionOf, hp, Option.getD_some]
  split
  · omega
  · split <;> omega

theorem requiredOpening_eq (d : Damper) :
    requiredOpening d = openingOfSteps d.entry.travel (min (targetOf d) (positionOf d)) := by
  unfold requiredOpening
  rcases Nat.le_total (targetOf d) (positionOf d) with h | h
  · rw [Nat.min_eq_left h, Nat.min_eq_left (openingOfSteps_le _ h)]
  · rw [Nat.min_eq_right h, Nat.min_eq_right (openingOfSteps_le _ h)]

/-- The close decided by the switch at position 0, with no share left, meets the law and holds no share. -/
theorem decideClose_kept {d : Damper} (ht : ∀ t, d.target = some t → t ≤ d.entry.travel)
    (hp : d.position = some 0) (hshare : d.share = 0) :
    damperInvariant (decideClose d) = true
      ∧ (d.pending = 0 → d.covered = none → AllowanceShare (decideClose d) ∧ coveredOf (decideClose d) = 0) := by
  rw [damperInvariant_iff]
  unfold decideClose arrive settleHere
  split
  · exact ⟨⟨ht, by simp [positionOf, hp], by simp, by simp⟩,
      fun hpend hcov => ⟨⟨by simp, by simp [hpend, hcov], by simp, by simp⟩, by simp [coveredOf, hcov]⟩⟩
  · exact ⟨⟨ht, by simp, by simp [hp, hshare], by simp⟩,
      fun hpend hcov => ⟨⟨by simp, by simp [hpend, hcov], by simp, by simp [hp]⟩, by simp [coveredOf, hcov]⟩⟩

/-- An arrival meets the law, with no less share than its position allows. -/
theorem arrive_kept {d : Damper} {p : Nat} (ht : ∀ t, d.target = some t → t ≤ d.entry.travel) (hp : d.position = some p)
    (hle : p ≤ d.entry.travel) :
    damperInvariant (arrive d) = true ∧ (arrive d).share = openingOfSteps d.entry.travel p
      ∧ (d.pending = 0 → d.covered = none → AllowanceShare (arrive d) ∧ coveredOf (arrive d) = 0) := by
  rw [damperInvariant_iff]
  unfold arrive settleHere
  exact ⟨⟨ht, by simp [positionOf, hp, hle], by simp, by simp⟩, by simp [positionOf, hp],
    fun hpend hcov => ⟨⟨by simp, by simp [hpend, hcov], by simp, by simp⟩, by simp [coveredOf, hcov]⟩⟩

@[simp] theorem decideClose_entry (d : Damper) : (decideClose d).entry = d.entry := by
  unfold decideClose arrive settleHere
  split <;> rfl

@[simp] theorem arrive_entry (d : Damper) : (arrive d).entry = d.entry := rfl

/-- One step of a move keeps a damper's law: it goes toward the target, so its required opening does not fall, but in a
slip, where the share waits to be released. -/
theorem moveStep_kept (i : Fin 6) (home : Bool) (d : Damper) : DamperKept d (moveStep i home d).1 := by
  by_cases hm : d.state = .moving ∧ d.seeking = false
  case neg => rw [moveStep_other i home hm]; exact homeSwitch_kept home d
  obtain ⟨hs, hseek⟩ := hm
  rw [moveStep_moving i home hs hseek]
  refine ⟨by split_ifs <;> simp [steppedMove], fun h => ?law, fun h ha => ?allowance⟩
  all_goals
    obtain ⟨ht, -, hmoving, -⟩ := (damperInvariant_iff d).mp h
    obtain ⟨p, hp, hle, hshare⟩ := hmoving hs
    obtain ⟨hqle, hq⟩ := steppedPosition_bounds (targetOf_le ht) hp hle
    have hopen : d.share ≤ openingOfSteps d.entry.travel (min (targetOf d) (steppedPosition d)) := by
      rw [requiredOpening_eq, positionOf_some d p hp] at hshare
      exact hshare.trans (openingOfSteps_le _ hq)
    have hclosed : steppedPosition d = 0 → d.share = 0 := by
      intro h0
      rw [h0] at hopen
      simpa using hopen
  case law =>
    split_ifs with hslip hzero harrive
    · exact proceed_law (p := 0) ht rfl (Nat.zero_le _)
    · exact (decideClose_kept (d := steppedMove home d) ht (congrArg some hzero) (hclosed hzero)).1
    · exact (arrive_kept (d := steppedMove home d) ht rfl hqle).1
    · rw [damperInvariant_iff]
      refine ⟨ht, by simp [steppedMove, hs], fun _ => ⟨_, rfl, hqle, ?_⟩, by simp [steppedMove, hs]⟩
      rw [requiredOpening_eq]
      exact hopen
  case allowance =>
    obtain ⟨hpend, hcov⟩ := ha.other (by simp [hs])
    have hmin : d.share ≤ openingOfSteps d.entry.travel (steppedPosition d) :=
      hopen.trans (openingOfSteps_le _ (Nat.min_le_right ..))
    split_ifs with hslip hzero harrive
    · obtain ⟨h1, h2, h3⟩ := proceed_allowance
        (d := { steppedMove home d with position := some 0, finish := .slip, stepLeft := none }) rfl hpend hcov
      exact ⟨h1, by rw [h2]; exact Nat.add_le_add (Nat.zero_le _) h3⟩
    · obtain ⟨h1, h2⟩ := (decideClose_kept (d := steppedMove home d) ht (congrArg some hzero) (hclosed hzero)).2 hpend hcov
      exact ⟨h1, by rw [h2, hclosed hzero]; omega⟩
    · obtain ⟨-, h1, h2⟩ := arrive_kept (d := steppedMove home d) ht rfl hqle
      obtain ⟨h2, h3⟩ := h2 hpend hcov
      exact ⟨h2, by rw [h3, h1]; exact Nat.add_le_add (Nat.zero_le _) hmin⟩
    · exact ⟨⟨by simp [steppedMove, hs], fun _ => ⟨hpend, hcov⟩, by simp [steppedMove, hs], by simp [steppedMove, hseek]⟩,
        Nat.le_refl _⟩

/-- One step of a homing keeps a damper's law. -/
theorem homingStep_kept (i : Fin 6) (home : Bool) (d : Damper) : DamperKept d (homingStep i home d).1 := by
  unfold homingStep
  dsimp only
  split
  next hs =>
    have unknown : ∀ {e : Damper}, e.entry = d.entry → e.target = d.target → (e.state = .homing ∨ e.state = .faulted) →
        e.share = d.share → e.pending = d.pending → e.covered = d.covered → DamperKept d e := by
      intro e hentry htarget hstate hshare hpending hcovered
      refine ⟨hentry, fun h => ?_, fun h ha => ?_⟩
      · obtain ⟨ht, -⟩ := (damperInvariant_iff d).mp h
        rw [damperInvariant_iff, hentry, htarget]
        exact ⟨ht, by rcases hstate with h | h <;> simp [h], by rcases hstate with h | h <;> simp [h],
          by rcases hstate with h | h <;> simp [h]⟩
      · have hother := ha.other (by simp [hs])
        have hzero := ha.unknown (by simp [hs])
        refine ⟨⟨by rcases hstate with h | h <;> simp [h], fun _ => by rw [hpending, hcovered]; exact hother,
          fun _ => by rw [hshare, hzero], by rcases hstate with h | h <;> simp [h]⟩, ?_⟩
        simp only [coveredOf, hcovered, hshare]
        omega
    split
    · refine ⟨by simp, fun h => ?_, fun h ha => ?_⟩
      · exact homeFound_law ((damperInvariant_iff d).mp h).1
      · obtain ⟨hpend, hcov⟩ := ha.other (by simp [hs])
        obtain ⟨h1, h2⟩ := homeFound_allowance (d := { d with
          homeSwitch := home, homingCount := d.homingCount + 1, towardOpen := false, stepLeft := some homingInterval })
          hpend hcov
        have := ha.unknown (by simp [hs])
        exact ⟨h1, by dsimp only; omega⟩
    · split
      · exact unknown rfl rfl (Or.inr rfl) rfl rfl rfl
      · exact unknown rfl rfl (Or.inl hs) rfl rfl rfl
  next => exact homeSwitch_kept home d

/-- One step of the seek after a close keeps a damper's law: a seek stands at position 0, where no share is left. -/
theorem seekStep_kept (i : Fin 6) (home : Bool) (d : Damper) : DamperKept d (seekStep i home d).1 := by
  unfold seekStep
  dsimp only
  split
  next hm =>
    obtain ⟨hs, hseek⟩ := hm
    refine ⟨by split_ifs <;> rfl, fun h => ?law, fun h ha => ?allowance⟩
    all_goals
      obtain ⟨ht, -, hmoving, -⟩ := (damperInvariant_iff d).mp h
      obtain ⟨p, hp, hle, hshare⟩ := hmoving hs
    case law =>
      split_ifs
      · exact (arrive_kept ht hp hle).1
      · rw [damperInvariant_iff]
        exact ⟨ht, by simp, by simp, by simp⟩
      · rw [damperInvariant_iff]
        exact ⟨ht, by simp [hs], fun _ => ⟨p, hp, hle, hshare⟩, by simp [hs]⟩
    case allowance =>
      obtain ⟨hpend, hcov⟩ := ha.other (by simp [hs])
      have hzero : d.share = 0 := by
        rw [requiredOpening_eq, positionOf_some d 0 (ha.seek hs hseek)] at hshare
        simpa using hshare
      split_ifs
      · obtain ⟨-, -, h1⟩ := arrive_kept (d := { d with
          homeSwitch := home, confirmCount := d.confirmCount + 1, stepLeft := some homingInterval }) ht hp hle
        obtain ⟨h1, h2⟩ := h1 hpend hcov
        exact ⟨h1, by dsimp only; omega⟩
      · exact ⟨⟨by simp, fun _ => ⟨hpend, hcov⟩, fun _ => hzero, by simp⟩, Nat.le_refl _⟩
      · exact ⟨⟨by simp [hs], fun _ => ⟨hpend, hcov⟩, fun _ => hzero, fun _ _ => ha.seek hs hseek⟩, Nat.le_refl _⟩
  next => exact homeSwitch_kept home d

/-! ### Mode changes and Load Damper Entry -/

/-- A mode change keeps a damper's law (R85, R86). -/
theorem damperMode_kept (old new : UnitMode) (d : Damper) : DamperKept d (damperMode old new d) := by
  unfold damperMode
  split
  · unfold stopForService
    split
    next hs =>
      refine ⟨rfl, fun h => ?_, fun h ha => ?_⟩
      all_goals obtain ⟨ht, -, hmoving, -⟩ := (damperInvariant_iff d).mp h
      all_goals obtain ⟨p, hp, hle, hshare⟩ := hmoving hs
      · rw [damperInvariant_iff]
        refine ⟨fun t h => ?_, fun _ => ⟨p, hp, hle, ?_⟩, by simp [settleHere], by simp [settleHere]⟩
        · obtain rfl : p = t := Option.some.inj (hp.symm.trans h)
          exact hle
        · simp [settleHere, positionOf, hp]
      · obtain ⟨hpend, hcov⟩ := ha.other (by simp [hs])
        have := requiredOpening_le_position d
        refine ⟨⟨by simp [settleHere], fun _ => ⟨hpend, hcov⟩, by simp [settleHere], by simp [settleHere]⟩, ?_⟩
        simp only [settleHere, coveredOf]
        omega
    next hs =>
      refine ⟨rfl, fun h => ?_, fun h ha => ?_⟩
      · rw [damperInvariant_iff]
        exact ⟨((damperInvariant_iff d).mp h).1, by simp, by simp, by simp⟩
      · have := ha.unknown (by simp [hs])
        refine ⟨⟨by simp, fun _ => ha.other (by simp [hs]), fun _ => rfl, by simp⟩, ?_⟩
        simp only [coveredOf]
        omega
    next => exact DamperKept.refl d
  · split
    · unfold homeAfterService
      split
      next hs =>
        refine ⟨by simp, fun h => startHoming_law ((damperInvariant_iff d).mp h).1, fun h ha => ?_⟩
        obtain ⟨hpend, hcov⟩ := ha.other (by simp [hs.1])
        obtain ⟨h1, h2⟩ := startHoming_allowance hpend hcov
        have := ha.unknown (by simp [hs.1])
        exact ⟨h1, by omega⟩
      next => exact DamperKept.refl d
    · exact DamperKept.refl d

/-- A damper set afresh by a loaded entry, before it starts homing (R68). -/
def afreshDamper (entry : DamperEntry) (d : Damper) : Damper :=
  { d with
    entry := entry, state := if entry.fitted then .unhomed else .unfitted, position := none
    target := if entry.fitted then some (entry.rest * entry.travel / 1000) else none
    share := 0, pending := 0, covered := none, homingCount := 0, confirmCount := 0, seeking := false, stepLeft := none }

theorem loadDamper_eq (mode : UnitMode) (entry : DamperEntry) (d : Damper) :
    loadDamper mode entry d =
      if entry.fitted = true ∧ mode ≠ .service then startHoming (afreshDamper entry d) else afreshDamper entry d := rfl

/-- A damper set afresh by an entry in its ranges meets its law and covers no reduction (R68). -/
theorem loadDamper_law (mode : UnitMode) {entry : DamperEntry} (d : Damper) (h : damperEntryInRange entry = true) :
    damperInvariant (loadDamper mode entry d) = true ∧ AllowanceShare (loadDamper mode entry d)
      ∧ coveredOf (loadDamper mode entry d) = 0 ∧ (loadDamper mode entry d).entry = entry := by
  have ht : ∀ t, (afreshDamper entry d).target = some t → t ≤ (afreshDamper entry d).entry.travel := by
    intro t ht
    have hrest : entry.rest ≤ 1000 := by simp [damperEntryInRange] at h; omega
    simp only [afreshDamper] at ht ⊢
    split at ht
    · obtain rfl := Option.some.inj ht
      calc entry.rest * entry.travel / 1000 ≤ 1000 * entry.travel / 1000 :=
            Nat.div_le_div_right (Nat.mul_le_mul_right _ hrest)
        _ = entry.travel := by omega
    · cases ht
  rw [loadDamper_eq]
  split
  · obtain ⟨h1, h2⟩ := startHoming_allowance (d := afreshDamper entry d) rfl rfl
    exact ⟨startHoming_law ht, h1, h2, by simp [afreshDamper]⟩
  · refine ⟨?_, ⟨?_, fun _ => ⟨rfl, rfl⟩, fun _ => rfl, ?_⟩, rfl, rfl⟩
    · rw [damperInvariant_iff]
      refine ⟨ht, ?_, ?_, ?_⟩ <;> simp only [afreshDamper] <;> split <;> simp
    all_goals simp only [afreshDamper]; split <;> simp

end Sys2Proof.Machine

/-! The six dampers and the blower: sums over the dampers, the ramp tick against the air allowance (R50, R51, R79), and the law
of the stall timer (R56, R58). -/
namespace Sys2Proof.Machine

/-! ### Six dampers -/

theorem six_all_iff {α : Type} (p : α → Bool) (v : Six α) : v.toList.all p = true ↔ ∀ i, p (v.get i) = true := by
  constructor
  · intro h i
    simp only [Six.toList, List.all_cons, List.all_nil, Bool.and_eq_true] at h
    match i with
    | 0 => exact h.1
    | 1 => exact h.2.1
    | 2 => exact h.2.2.1
    | 3 => exact h.2.2.2.1
    | 4 => exact h.2.2.2.2.1
    | 5 => exact h.2.2.2.2.2.1
  · intro h
    simp only [Six.toList, List.all_cons, List.all_nil, Bool.and_eq_true]
    exact ⟨h 0, h 1, h 2, h 3, h 4, h 5, trivial⟩

/-- A property of all six is kept when one is replaced by a thing that has it. -/
theorem Six.forall_set {α : Type} {p : α → Prop} {v : Six α} (i : Fin 6) {x : α} (hx : p x) (h : ∀ j, p (v.get j)) (j : Fin 6) :
    p ((v.set i x).get j) := by
  rw [Six.get_set]
  split
  · exact hx
  · exact h j

/-- Six operations, one at each damper, that keep each damper. -/
def DampersKept (v w : Six Damper) : Prop := ∀ i, DamperKept (v.get i) (w.get i)

theorem DampersKept.set (v : Six Damper) (i : Fin 6) {d : Damper} (h : DamperKept (v.get i) d) :
    DampersKept v (v.set i d) := by
  intro j
  rw [Six.get_set]
  split
  next hj => subst hj; exact h
  next => exact DamperKept.refl _

theorem DampersKept.map (v : Six Damper) {f : Damper → Damper} (h : ∀ d, DamperKept d (f d)) : DampersKept v (v.map f) := by
  intro j
  rw [Six.get_map]
  exact h _

/-- What keeps the law of the allowance at all six dampers. -/
def AllowanceShares (v : Six Damper) : Prop := ∀ i, damperInvariant (v.get i) = true ∧ AllowanceShare (v.get i)

theorem allowanceShares_iff (v : Six Damper) : v.toList.all damperAllowance = true ↔ AllowanceShares v := by
  rw [six_all_iff]
  exact forall_congr' fun i => damperAllowance_iff _

theorem AllowanceShares.covered_le {v : Six Damper} (h : AllowanceShares v) : coveredSum v ≤ shareSum v := by
  have h0 := (h 0).2.covered_le; have h1 := (h 1).2.covered_le; have h2 := (h 2).2.covered_le
  have h3 := (h 3).2.covered_le; have h4 := (h 4).2.covered_le; have h5 := (h 5).2.covered_le
  simp only [Six.get] at h0 h1 h2 h3 h4 h5
  unfold coveredSum shareSum
  omega

theorem DampersKept.shares {v w : Six Damper} (h : DampersKept v w) (hv : AllowanceShares v) :
    AllowanceShares w ∧ coveredSum w + shareSum v ≤ coveredSum v + shareSum w := by
  have hw : ∀ i, AllowanceShare (w.get i) ∧ coveredOf (w.get i) + (v.get i).share ≤ coveredOf (v.get i) + (w.get i).share :=
    fun i => (h i).allowance (hv i).1 (hv i).2
  refine ⟨fun i => ⟨(h i).law (hv i).1, (hw i).1⟩, ?_⟩
  have h0 := (hw 0).2; have h1 := (hw 1).2; have h2 := (hw 2).2
  have h3 := (hw 3).2; have h4 := (hw 4).2; have h5 := (hw 5).2
  simp only [Six.get] at h0 h1 h2 h3 h4 h5
  unfold coveredSum shareSum
  omega

/-- Recording the reductions taken: the covered sum is then the pending sum, which is at most the shares. -/
theorem recordCovered_shares {v : Six Damper} (hv : AllowanceShares v) :
    AllowanceShares (v.map recordCovered) ∧ coveredSum (v.map recordCovered) = pendingSum v
      ∧ shareSum (v.map recordCovered) = shareSum v := by
  refine ⟨fun i => ?_, ?_, ?_⟩
  · obtain ⟨-, hlaw, hshare, -⟩ := recordCovered_law (v.get i)
    rw [Six.get_map]
    exact ⟨hlaw (hv i).1, (hshare (hv i).2).1⟩
  · have hc : ∀ i, coveredOf (recordCovered (v.get i)) = (v.get i).pending :=
      fun i => ((recordCovered_law (v.get i)).2.2.1 (hv i).2).2
    have h0 := hc 0; have h1 := hc 1; have h2 := hc 2; have h3 := hc 3; have h4 := hc 4; have h5 := hc 5
    simp only [Six.get] at h0 h1 h2 h3 h4 h5
    simp only [coveredSum, pendingSum, Six.map, h0, h1, h2, h3, h4, h5]
  · simp only [shareSum, Six.map, (recordCovered_law _).2.2.2]

/-! ### The law of the allowance -/

theorem allowanceInvariant_iff (s : State) :
    allowanceInvariant s = true ↔
      AllowanceShares s.dp.dampers ∧ s.bd.applied ≤ 1000
      ∧ (s.bd.state = .stopped ∨ s.bd.state = .running ∨ s.bd.applied = 0)
      ∧ s.bd.applied + coveredSum s.dp.dampers ≤ s.mc.settings.fixedShare + shareSum s.dp.dampers := by
  simp only [allowanceInvariant, Bool.and_eq_true, allowanceShares_iff, decide_eq_true_eq, Bool.or_eq_true, beq_iff_eq,
    and_assoc, or_assoc]

theorem shareSum_ge_of_invariant {s : State} (h : allowanceInvariant s = true) :
    s.bd.applied ≤ 1000 ∧ s.bd.applied ≤ s.mc.settings.fixedShare + shareSum s.dp.dampers := by
  obtain ⟨-, h1, -, h2⟩ := (allowanceInvariant_iff s).mp h
  exact ⟨h1, by omega⟩

/-- The stall timer stands exactly under its conditions or expired, and never for more than its length (R56, R58). -/
def StallLaw (bd : Blower) : Prop :=
  (bd.stallLeft.isSome ↔ bd.state = .running ∧ bd.speed = 0 ∧ (150 ≤ bd.applied ∨ bd.stallLeft = some 0))
    ∧ leftOf bd.stallLeft ≤ 1000

/-- Following its conditions gives the stall timer its law. -/
theorem watchStall_law {bd : Blower} (h : leftOf bd.stallLeft ≤ 1000) : StallLaw (watchStall bd) := by
  unfold watchStall StallLaw
  simp only [stallConditions, stallExpired, Bool.or_eq_true, Bool.and_eq_true, beq_iff_eq, decide_eq_true_eq]
  split
  next hc =>
    cases hl : bd.stallLeft with
    | none => simp_all [leftOf]
    | some n => simp_all [leftOf]; tauto
  next hc =>
    simp_all [leftOf]

@[simp] theorem watchStall_applied (bd : Blower) : (watchStall bd).applied = bd.applied := by
  unfold watchStall; split <;> [split <;> rfl; rfl]
@[simp] theorem watchStall_state (bd : Blower) : (watchStall bd).state = bd.state := by
  unfold watchStall; split <;> [split <;> rfl; rfl]
@[simp] theorem watchStall_profiles (bd : Blower) : (watchStall bd).profiles = bd.profiles := by
  unfold watchStall; split <;> [split <;> rfl; rfl]

/-- What an operation of the Blower Drive other than a ramp tick keeps: the law of the stall timer, an applied duty that does
not rise, and no duty outside Stopped and Running. -/
structure BlowerKept (bd bd' : Blower) : Prop where
  stall : StallLaw bd → StallLaw bd'
  applied : bd'.applied ≤ bd.applied
  idle : (bd.state = .stopped ∨ bd.state = .running ∨ bd.applied = 0) →
    (bd'.state = .stopped ∨ bd'.state = .running ∨ bd'.applied = 0)
  profiles : bd.profiles.toList.all profileInRange = true → bd'.profiles.toList.all profileInRange = true

theorem BlowerKept.refl (bd : Blower) : BlowerKept bd bd := ⟨id, Nat.le_refl _, id, id⟩

theorem stageDemand_kept (mode : UnitMode) (duty : Nat) (bd : Blower) : BlowerKept bd (stageDemand mode duty bd) := by
  unfold stageDemand
  split <;> exact ⟨id, Nat.le_refl _, id, id⟩

theorem blowerMode_kept (new : UnitMode) (bd : Blower) : BlowerKept bd (blowerMode new bd).1 := by
  unfold blowerMode
  dsimp only
  split
  next hr =>
    refine ⟨fun h => ?_, by split <;> exact Nat.le_refl _, fun _ => Or.inl rfl, by split <;> exact id⟩
    obtain ⟨h1, h2⟩ := h
    have hnone : bd.stallLeft = none := by
      cases hl : bd.stallLeft with
      | none => rfl
      | some n => simp_all
    split <;> simp [StallLaw, hnone, leftOf]
  next => split <;> exact ⟨id, Nat.le_refl _, id, id⟩

theorem blowerOffRequested_kept (bd : Blower) : BlowerKept bd (blowerOffRequested bd).1 := by
  unfold blowerOffRequested
  split
  next hf =>
    refine ⟨fun h => ?_, Nat.le_refl _, fun _ => Or.inl rfl, id⟩
    obtain ⟨h1, h2⟩ := h
    have hnone : bd.stallLeft = none := by
      cases hl : bd.stallLeft with
      | none => rfl
      | some n => simp_all
    simp [StallLaw, hnone, leftOf]
  next => exact ⟨id, Nat.le_refl _, id, id⟩

theorem edgesLoaded_kept (before new : Nat) (bd : Blower) : BlowerKept bd (edgesLoaded before new bd) := by
  unfold edgesLoaded
  split <;> exact ⟨id, Nat.le_refl _, id, id⟩

theorem tachEdge_kept (settings : Settings) (instant : Nat) (bd : Blower) :
    BlowerKept bd (tachEdge settings instant bd) := by
  unfold tachEdge
  split
  · split
    · exact ⟨fun h => watchStall_law h.2, by simp, by simp, by simp⟩
    · exact ⟨id, Nat.le_refl _, id, id⟩
  · exact ⟨id, Nat.le_refl _, id, id⟩

theorem noCapture_kept (bd : Blower) : BlowerKept bd (noCapture bd) := by
  unfold noCapture
  split
  · exact ⟨fun h => watchStall_law h.2, by simp, by simp, by simp⟩
  · exact BlowerKept.refl bd

theorem stallExpiry_kept (bd : Blower) : BlowerKept bd (stallExpiry bd).1 := by
  unfold stallExpiry
  split
  · exact BlowerKept.refl bd
  · dsimp only
    split <;> exact ⟨fun _ => by simp [StallLaw, leftOf], Nat.zero_le _, fun _ => Or.inr (Or.inr rfl), id⟩

theorem retryExpiry_kept (bd : Blower) : BlowerKept bd (retryExpiry bd) := by
  unfold retryExpiry
  split
  · exact ⟨fun _ => by simp [StallLaw, leftOf], Nat.zero_le _, fun _ => Or.inr (Or.inl rfl), id⟩
  · exact BlowerKept.refl bd

theorem healthyExpiry_kept (bd : Blower) : BlowerKept bd (healthyExpiry bd) := by
  unfold healthyExpiry
  split <;> exact ⟨id, Nat.le_refl _, id, id⟩

theorem runSecond_kept (bd : Blower) : BlowerKept bd (runSecond bd).1 := by
  unfold runSecond
  split <;> exact ⟨id, Nat.le_refl _, id, id⟩

/-! ### The ramp tick -/

theorem rampStep_le {band : Band} {target applied l : Nat} (ht : target ≤ l) (ha : applied ≤ l) :
    rampStep band target applied ≤ l := by
  unfold rampStep
  split
  · omega
  · split <;> omega

/-- After steps 2 and 3 of a ramp tick the applied duty is within the allowance. -/
theorem moveDuty_le (mc : ModeControl) (l : Nat) (bd : Blower) : (moveDuty mc l bd).applied ≤ l := by
  unfold moveDuty
  split
  · exact Nat.le_refl l
  · split
    · exact rampStep_le (Nat.min_le_right ..) (by omega)
    · omega

@[simp] theorem moveDuty_state (mc : ModeControl) (l : Nat) (bd : Blower) : (moveDuty mc l bd).state = bd.state := by
  unfold moveDuty; split <;> [rfl; split <;> rfl]
@[simp] theorem moveDuty_stallLeft (mc : ModeControl) (l : Nat) (bd : Blower) :
    (moveDuty mc l bd).stallLeft = bd.stallLeft := by
  unfold moveDuty; split <;> [rfl; split <;> rfl]
@[simp] theorem moveDuty_profiles (mc : ModeControl) (l : Nat) (bd : Blower) :
    (moveDuty mc l bd).profiles = bd.profiles := by
  unfold moveDuty; split <;> [rfl; split <;> rfl]
@[simp] theorem settleBlower_applied (mode : UnitMode) (bd : Blower) : (settleBlower mode bd).applied = bd.applied := by
  unfold settleBlower; split <;> [split <;> rfl; split <;> rfl; rfl]
@[simp] theorem settleBlower_stallLeft (mode : UnitMode) (bd : Blower) :
    (settleBlower mode bd).stallLeft = bd.stallLeft := by
  unfold settleBlower; split <;> [split <;> rfl; split <;> rfl; rfl]
@[simp] theorem settleBlower_profiles (mode : UnitMode) (bd : Blower) :
    (settleBlower mode bd).profiles = bd.profiles := by
  unfold settleBlower; split <;> [split <;> rfl; split <;> rfl; rfl]

/-- Outside Stopped and Running no tick raises the duty from 0. -/
theorem moveDuty_idle {mc : ModeControl} {l : Nat} {bd : Blower}
    (h : bd.state = .stopped ∨ bd.state = .running ∨ bd.applied = 0) :
    bd.state = .stopped ∨ bd.state = .running ∨ (moveDuty mc l bd).applied = 0 := by
  unfold moveDuty
  split
  · rcases h with h | h | h
    · exact .inl h
    · exact .inr (.inl h)
    · omega
  · split <;> tauto

theorem settleBlower_idle {mode : UnitMode} {bd : Blower}
    (h : bd.state = .stopped ∨ bd.state = .running ∨ bd.applied = 0) :
    (settleBlower mode bd).state = .stopped ∨ (settleBlower mode bd).state = .running ∨ bd.applied = 0 := by
  unfold settleBlower
  split
  · split <;> simp_all
  · split <;> simp_all
  · simp_all

/-- A ramp tick leaves an applied duty within the allowance, its stall timer under its law, and the profiles. -/
theorem blowerTick_kept (mc : ModeControl) (v : Six Damper) (bd : Blower) :
    (blowerTick mc v bd).1.applied ≤ allowanceOf mc.settings.fixedShare v
      ∧ ((bd.state = .stopped ∨ bd.state = .running ∨ bd.applied = 0) →
        (blowerTick mc v bd).1.state = .stopped ∨ (blowerTick mc v bd).1.state = .running
          ∨ (blowerTick mc v bd).1.applied = 0)
      ∧ (StallLaw bd → StallLaw (blowerTick mc v bd).1)
      ∧ (blowerTick mc v bd).1.profiles = bd.profiles := by
  unfold blowerTick
  simp only [watchStall_applied, watchStall_state, watchStall_profiles, settleBlower_applied, settleBlower_profiles,
    moveDuty_profiles, and_true]
  refine ⟨moveDuty_le .., fun h => ?_, fun h => watchStall_law (by simpa using h.2)⟩
  exact settleBlower_idle (by rw [moveDuty_state]; exact moveDuty_idle h)

/-- A ramp tick keeps the law of the allowance: it cuts the duty to the allowance and records the reductions taken. -/
theorem rampTick_allowance {s : State} (h : allowanceInvariant s = true) :
    allowanceInvariant { s with
      bd := (blowerTick s.mc s.dp.dampers s.bd).1, dp := ⟨s.dp.dampers.map recordCovered⟩ } = true := by
  obtain ⟨hshares, -, hidle, -⟩ := (allowanceInvariant_iff s).mp h
  obtain ⟨hle, hidle', -, -⟩ := blowerTick_kept s.mc s.dp.dampers s.bd
  obtain ⟨hrec, hcov, hsum⟩ := recordCovered_shares hshares
  have hpend := hrec.covered_le
  rw [hcov, hsum] at hpend
  rw [allowanceInvariant_iff]
  unfold allowanceOf at hle
  exact ⟨hrec, by dsimp only; omega, hidle' hidle, by dsimp only; omega⟩

/-- A millisecond keeps the law of the stall timer. -/
theorem advanceBlower_stall {bd : Blower} (h : StallLaw bd) : StallLaw (advanceBlower bd) := by
  obtain ⟨h1, h2⟩ := h
  unfold StallLaw advanceBlower
  cases hl : bd.stallLeft with
  | none => simp_all [countDown, leftOf]
  | some n =>
    simp only [hl, leftOf, Option.isSome_some, true_iff] at h1 h2
    refine ⟨?_, ?_⟩
    · simp only [countDown, Option.isSome_some, true_iff]
      refine ⟨h1.1, h1.2.1, h1.2.2.imp_right fun h0 => ?_⟩
      obtain rfl := Option.some.inj h0
      rfl
    · simp only [countDown, leftOf]
      omega

end Sys2Proof.Machine

/-! The Drying Sequencer: what every delivery, timer and request keeps of the laws of the compressor (R120, R123, R125), and that
no delivery ends the off timer of a compressor that is off (R117). -/
namespace Sys2Proof.Machine

/-- The invariant of the sequencer in propositions (R117, R120, R121, R123, R125, R131, R133). -/
structure SequencerLaw (mode : UnitMode) (coilMinimum : Nat) (ds : Sequencer) : Prop where
  tank : ds.compressor = true → ds.tankBlocked = false
  off : ds.compressor = true → ds.offLeft = none
  airflow : ds.compressor = true → coilMinimum ≤ ds.applied ∨ ∃ n, ds.graceLeft = some n ∧ n ≤ 10000
  output : ds.compressor = true ↔ ds.state = .running ∨ ds.service = true
  service : ds.service = true → ds.state = .idle
  start : ds.state = .readyWait ∨ ds.state = .airflowWait → startConditions ds = true
  wait : ds.state = .airflowWait → ds.offLeft = none
  hold : ds.state = .tankHold → ds.tankBlocked = true
  grace : leftOf ds.graceLeft ≤ 10000
  heldMode : mode = .service → ds.mode = .service
  serviceMode : ds.mode = .service → ds.state = .idle ∨ ds.state = .tankHold ∨ ds.state = .lockout

theorem compressorInvariant_iff (mode : UnitMode) (coilMinimum : Nat) (ds : Sequencer) :
    compressorInvariant mode coilMinimum ds = true ↔ SequencerLaw mode coilMinimum ds := by
  have airflow : airflowLaw coilMinimum ds = true ↔
      (ds.compressor = true → coilMinimum ≤ ds.applied ∨ ∃ n, ds.graceLeft = some n ∧ n ≤ 10000) := by
    unfold airflowLaw
    cases ds.compressor <;> cases ds.graceLeft <;> simp
  have law : compressorLaw ds = true ↔ (ds.compressor = true → ds.tankBlocked = false ∧ ds.offLeft = none) := by
    unfold compressorLaw
    cases ds.compressor <;> simp
  have equal : (ds.compressor == (ds.state == .running || ds.service)) = true ↔
      (ds.compressor = true ↔ ds.state = .running ∨ ds.service = true) := by
    cases ds.compressor <;> cases ds.service <;> simp
  have implies : ∀ (a b : Bool), (!a || b) = true ↔ (a = true → b = true) := by decide
  simp only [compressorInvariant, Bool.and_eq_true, airflow, law, equal, Bool.or_assoc, implies, Bool.or_eq_true, beq_iff_eq,
    decide_eq_true_eq, Option.isNone_iff_eq_none]
  constructor
  · rintro ⟨⟨⟨⟨⟨⟨⟨⟨⟨hlaw, hair⟩, hout⟩, hserv⟩, hstart⟩, hwait⟩, hhold⟩, hgrace⟩, hheld⟩, hmode⟩
    exact ⟨fun hc => (hlaw hc).1, fun hc => (hlaw hc).2, hair, hout, hserv, hstart, hwait, hhold, hgrace, hheld, hmode⟩
  · rintro ⟨htank, hoff, hair, hout, hserv, hstart, hwait, hhold, hgrace, hheld, hmode⟩
    exact ⟨⟨⟨⟨⟨⟨⟨⟨⟨fun hc => ⟨htank hc, hoff hc⟩, hair⟩, hout⟩, hserv⟩, hstart⟩, hwait⟩, hhold⟩, hgrace⟩, hheld⟩, hmode⟩


/-! ### Building blocks: a compressor that is off -/

section Blocks
variable {mode : UnitMode} {coilMinimum : Nat} {ds : Sequencer}

/-- The compressor is off, and what the law asks of every state holds. -/
structure Resting (mode : UnitMode) (ds : Sequencer) : Prop where
  compressor : ds.compressor = false
  service : ds.service = false
  grace : leftOf ds.graceLeft ≤ 10000
  heldMode : mode = .service → ds.mode = .service

/-- A compressor that is off meets the law in every state whose own condition holds. -/
theorem Resting.law (h : Resting mode ds) (hr : ds.state ≠ .running)
    (start : ds.state = .readyWait ∨ ds.state = .airflowWait → startConditions ds = true)
    (wait : ds.state = .airflowWait → ds.offLeft = none) (hold : ds.state = .tankHold → ds.tankBlocked = true)
    (serviceMode : ds.mode = .service → ds.state = .idle ∨ ds.state = .tankHold ∨ ds.state = .lockout) :
    SequencerLaw mode coilMinimum ds := by
  obtain ⟨hc, hs, hg, hm⟩ := h
  exact ⟨by simp [hc], by simp [hc], by simp [hc], by simp [hc, hs, hr], by simp [hs], start, wait, hold, hg, hm, serviceMode⟩

theorem startConditions_iff :
    startConditions ds = true ↔ runMode ds.mode = true ∧ ds.call = true ∧ ds.tankBlocked = false ∧ ds.coil.isSome = true
      ∧ ds.nodeLost = false ∧ ds.faulted = false ∧ ds.state ≠ .lockout := by
  simp [startConditions, and_assoc]

theorem mode_ne_service_of_start (h : startConditions ds = true) : ds.mode ≠ .service := by
  intro hm
  simp [startConditions, hm, runMode] at h

/-- The evaluation in Idle with the compressor off meets the law, whatever it leads to (R119, R121, R123). -/
theorem evaluateIdle_law (h : Resting mode ds) (hs : ds.state = .idle) :
    SequencerLaw mode coilMinimum (evaluateIdle coilMinimum ds).1 := by
  unfold evaluateIdle
  split
  next hstart =>
    have hmode := mode_ne_service_of_start hstart
    have hconditions := startConditions_iff.mp hstart
    have hanywhere : ∀ {state : DsState} {left : Option Nat}, state ≠ .lockout →
        startConditions { ds with state := state, airflowWaitLeft := left } = true := by
      intro state left hl
      rw [startConditions_iff]
      exact ⟨hconditions.1, hconditions.2.1, hconditions.2.2.1, hconditions.2.2.2.1, hconditions.2.2.2.2.1,
        hconditions.2.2.2.2.2.1, hl⟩
    split
    · exact Resting.law ⟨h.compressor, h.service, h.grace, h.heldMode⟩ (by simp) (fun _ => hanywhere (by simp)) (by simp)
        (by simp) (fun hm => absurd hm hmode)
    next hoff =>
      have hnone : ds.offLeft = none := by simpa using hoff
      unfold enterAirflowWait
      dsimp only
      split
      next happlied =>
        obtain ⟨-, -, htank, -⟩ := hconditions
        exact ⟨fun _ => htank, fun _ => hnone, fun _ => .inl happlied, by simp [enterRunning],
          by simp [enterRunning, h.service], by simp [enterRunning], by simp [enterRunning], by simp [enterRunning],
          h.grace, h.heldMode, fun hm => absurd hm hmode⟩
      · exact Resting.law ⟨h.compressor, h.service, h.grace, h.heldMode⟩ (by simp) (fun _ => hanywhere (by simp))
          (fun _ => hnone) (by simp) (fun hm => absurd hm hmode)
  next => exact h.law (by simp [hs]) (by simp [hs]) (by simp [hs]) (by simp [hs]) (by simp [hs])

theorem goIdle_law (h : Resting mode ds) : SequencerLaw mode coilMinimum (goIdle coilMinimum ds).1 :=
  evaluateIdle_law (ds := { ds with state := .idle }) ⟨h.compressor, h.service, h.grace, h.heldMode⟩ rfl

theorem goTankHold_law (h : Resting mode ds) (ht : ds.tankBlocked = true) :
    SequencerLaw mode coilMinimum (goTankHold ds).1 :=
  Resting.law ⟨h.compressor, h.service, h.grace, h.heldMode⟩ (by simp [goTankHold]) (by simp [goTankHold])
    (by simp [goTankHold]) (fun _ => ht) (by simp [goTankHold])

/-- A compressor off rests (R117). -/
theorem compressorOff_resting (heldMode : mode = .service → ds.mode = .service) (cause : CompressorFinish) :
    Resting mode { compressorOff ds with finish := cause } := ⟨rfl, rfl, Nat.zero_le _, heldMode⟩

theorem stopRunning_law (heldMode : mode = .service → ds.mode = .service) (cause : CompressorFinish)
    (ht : cause = .tankFull → ds.tankBlocked = true) :
    SequencerLaw mode coilMinimum (stopRunning coilMinimum cause ds).1 := by
  unfold stopRunning
  dsimp only
  split
  next hc => exact goTankHold_law (compressorOff_resting heldMode cause) (ht hc)
  next => exact goIdle_law (compressorOff_resting heldMode cause)

theorem leaveAirflowWait_law (h : Resting mode ds) (cause : CompressorFinish) :
    SequencerLaw mode coilMinimum (leaveAirflowWait coilMinimum cause ds).1 :=
  goIdle_law (ds := { ds with airflowWaitLeft := none, finish := cause }) ⟨h.compressor, h.service, h.grace, h.heldMode⟩

theorem endDefrost_law (h : Resting mode ds) : SequencerLaw mode coilMinimum (endDefrost coilMinimum ds).1 := by
  unfold endDefrost
  dsimp only
  split
  next ht => exact goTankHold_law ⟨h.compressor, h.service, h.grace, h.heldMode⟩ ht
  next => exact goIdle_law ⟨h.compressor, h.service, h.grace, h.heldMode⟩

/-! ### Deliveries -/

/-- What of the law is left when an input has been changed and its delivery `ev` is about to be handled (R118). -/
structure Delivered (ev : DsEvent) (mode : UnitMode) (coilMinimum : Nat) (ds : Sequencer) : Prop where
  tank : ev ≠ .tank → ds.compressor = true → ds.tankBlocked = false
  off : ds.compressor = true → ds.offLeft = none
  airflow : ev ≠ .applied → ds.compressor = true → coilMinimum ≤ ds.applied ∨ ∃ n, ds.graceLeft = some n ∧ n ≤ 10000
  output : ds.compressor = true ↔ ds.state = .running ∨ ds.service = true
  service : ds.service = true → ds.state = .idle
  wait : ds.state = .airflowWait → ds.offLeft = none
  hold : ev ≠ .tank → ds.state = .tankHold → ds.tankBlocked = true
  grace : leftOf ds.graceLeft ≤ 10000
  heldMode : mode = .service → ds.mode = .service
  serviceMode : ev ≠ .mode → ds.mode = .service → ds.state = .idle ∨ ds.state = .tankHold ∨ ds.state = .lockout

variable {ev : DsEvent}

theorem Delivered.resting (h : Delivered ev mode coilMinimum ds) (hr : ds.state ≠ .running) (hs : ds.service = false) :
    Resting mode ds := by
  refine ⟨?_, hs, h.grace, h.heldMode⟩
  have := h.output
  cases hc : ds.compressor <;> simp_all

/-- The law at a delivery that stops nothing: the conditions of the state and of the input delivered remain to be shown. -/
theorem Delivered.law (h : Delivered ev mode coilMinimum ds)
    (tank : ev = .tank → ds.compressor = true → ds.tankBlocked = false)
    (airflow : ev = .applied → ds.compressor = true → coilMinimum ≤ ds.applied ∨ ∃ n, ds.graceLeft = some n ∧ n ≤ 10000)
    (start : ds.state = .readyWait ∨ ds.state = .airflowWait → startConditions ds = true)
    (hold : ev = .tank → ds.state = .tankHold → ds.tankBlocked = true)
    (serviceMode : ev = .mode → ds.mode = .service → ds.state = .idle ∨ ds.state = .tankHold ∨ ds.state = .lockout) :
    SequencerLaw mode coilMinimum ds := by
  refine ⟨?_, h.off, ?_, h.output, h.service, start, h.wait, ?_, h.grace, h.heldMode, ?_⟩
  · by_cases he : ev = .tank
    · exact tank he
    · exact h.tank he
  · by_cases he : ev = .applied
    · exact airflow he
    · exact h.airflow he
  · by_cases he : ev = .tank
    · exact hold he
    · exact h.hold he
  · by_cases he : ev = .mode
    · exact serviceMode he
    · exact h.serviceMode he

/-- The grace that follows the applied duty restores the airflow law and touches nothing else (R125). -/
theorem watchGrace_law (h : Delivered .applied mode coilMinimum ds)
    (hst : ds.state ≠ .readyWait ∧ ds.state ≠ .airflowWait) : SequencerLaw mode coilMinimum (watchGrace coilMinimum ds) := by
  obtain ⟨htank, hoff, -, hout, hserv, hwait, hhold, hgrace, hheld, hmode⟩ := h
  have hready : ∀ {p : Prop}, ds.state = .readyWait ∨ ds.state = .airflowWait → p := by
    rintro p (h | h)
    · exact absurd h hst.1
    · exact absurd h hst.2
  unfold watchGrace
  split
  next hc =>
    split
    next hlow =>
      split
      next n hn =>
        rw [hn] at hgrace
        exact ⟨htank (by simp), hoff, fun _ => .inr ⟨n, hn, hgrace⟩, hout, hserv, hready, hwait, hhold (by simp),
          by rw [hn]; exact hgrace, hheld, hmode (by simp)⟩
      next =>
        exact ⟨htank (by simp), hoff, fun _ => .inr ⟨graceTime, rfl, Nat.le_refl _⟩, hout, hserv, hready, hwait,
          hhold (by simp), Nat.le_refl _, hheld, hmode (by simp)⟩
    next hhigh =>
      exact ⟨htank (by simp), hoff, fun _ => .inl (by dsimp only; omega), hout, hserv, hready, hwait, hhold (by simp),
        Nat.zero_le _, hheld, hmode (by simp)⟩
  next hc =>
    exact ⟨htank (by simp), hoff, fun h => absurd h hc, hout, hserv, hready, hwait, hhold (by simp), hgrace, hheld,
      hmode (by simp)⟩

theorem watchFrost_law (h : SequencerLaw mode coilMinimum ds) : SequencerLaw mode coilMinimum (watchFrost ds) := by
  unfold watchFrost
  split
  · split
    · exact h
    · exact { h with }
  · exact { h with }

theorem deliverService_law (h : Delivered ev mode coilMinimum ds) (hs : ds.state = .idle) :
    SequencerLaw mode coilMinimum (deliverService coilMinimum ev ds).1 := by
  have hstay : ev ≠ .tank ∨ ds.tankBlocked = false → ev ≠ .applied → SequencerLaw mode coilMinimum ds := fun ht ha =>
    h.law (fun he _ => ht.resolve_left (not_not_intro he)) (fun he => absurd he ha) (by simp [hs]) (by simp [hs]) (by simp [hs])
  unfold deliverService
  split
  · split
    next hb => exact goTankHold_law (compressorOff_resting h.heldMode _) hb
    next hb => exact hstay (.inr (by simpa using hb)) (by simp)
  · split
    · exact evaluateIdle_law (compressorOff_resting h.heldMode _) hs
    · exact hstay (.inl (by simp)) (by simp)
  · split
    · exact hstay (.inl (by simp)) (by simp)
    · exact evaluateIdle_law (compressorOff_resting h.heldMode _) hs
  · exact watchGrace_law h (by simp [hs])
  next h1 _ _ h4 => exact hstay (.inl h1) h4

theorem runningStop_tank {cause : CompressorFinish} (h : runningStop ev ds = some cause) :
    cause = .tankFull → ds.tankBlocked = true := by
  rintro rfl
  cases ev <;> grind [runningStop]

theorem deliverRunning_law (h : Delivered ev mode coilMinimum ds) (hs : ds.state = .running) :
    SequencerLaw mode coilMinimum (deliverRunning coilMinimum ev ds).1 := by
  unfold deliverRunning
  split
  next cause hstop => exact stopRunning_law h.heldMode cause (runningStop_tank hstop)
  next hstop =>
    have hstay : ev ≠ .applied → SequencerLaw mode coilMinimum ds := by
      intro ha
      refine h.law ?_ (fun he => absurd he ha) (by simp [hs]) (by simp [hs]) ?_
      · rintro rfl -
        simpa [runningStop] using hstop
      · rintro rfl hm
        simp [runningStop, hm, restMode] at hstop
    split
    · split
      · exact stopRunning_law h.heldMode _ (by simp)
      · exact hstay (by simp)
    · exact watchGrace_law h (by simp [hs])
    · exact watchFrost_law (hstay (by simp))
    next h1 h2 _ => exact hstay h2

theorem deliverDefrost_law (h : Delivered ev mode coilMinimum ds) (hs : ds.state = .defrost) :
    SequencerLaw mode coilMinimum (deliverDefrost coilMinimum ev ds).1 := by
  have hserv : ds.service = false := by
    cases hv : ds.service
    · rfl
    · simp [h.service hv] at hs
  have hrest : Resting mode ds := h.resting (by simp [hs]) hserv
  have hstop : SequencerLaw mode coilMinimum (goIdle coilMinimum { ds with defrostLeft := none }).1 :=
    goIdle_law ⟨hrest.compressor, hrest.service, hrest.grace, hrest.heldMode⟩
  have hstay : (ev ≠ .mode ∨ runMode ds.mode = true) → SequencerLaw mode coilMinimum ds := by
    intro hm
    refine hrest.law (by simp [hs]) (by simp [hs]) (by simp [hs]) (by simp [hs]) fun hservice => ?_
    rcases hm with hm | hm
    · exact h.serviceMode hm hservice
    · simp [hservice, runMode] at hm
  unfold deliverDefrost
  dsimp only
  split
  · split
    next hm => exact hstay (.inr hm)
    next => exact hstop
  · exact hstop
  · exact hstop
  · split
    · exact hstop
    · exact hstay (.inl (by simp))
  · split
    · exact hstop
    · split
      · exact endDefrost_law ⟨hrest.compressor, hrest.service, hrest.grace, hrest.heldMode⟩
      · exact hstay (.inl (by simp))
  next h1 _ _ _ _ => exact hstay (.inl h1)

/-- Every delivery leads from what the changed input leaves of the law back to the law (R118 to R133). -/
theorem dsDeliver_law (h : Delivered ev mode coilMinimum ds) :
    SequencerLaw mode coilMinimum (dsDeliver coilMinimum ev ds).1 := by
  have hserv : ds.state ≠ .idle → ds.service = false := by
    intro hi
    cases hv : ds.service
    · rfl
    · exact absurd (h.service hv) hi
  unfold dsDeliver
  split
  next hs =>
    split
    next => exact deliverService_law h hs
    next hv => exact evaluateIdle_law (h.resting (by simp [hs]) (by simpa using hv)) hs
  next hs =>
    have hrest : Resting mode ds := h.resting (by simp [hs]) (hserv (by simp [hs]))
    split
    next hstart =>
      exact hrest.law (by simp [hs]) (fun _ => hstart) (by simp [hs]) (by simp [hs])
        fun hm => absurd hm (mode_ne_service_of_start hstart)
    next => exact goIdle_law hrest
  next hs =>
    have hrest : Resting mode ds := h.resting (by simp [hs]) (hserv (by simp [hs]))
    split
    next hstart =>
      have hmode := mode_ne_service_of_start hstart
      obtain ⟨-, -, htank, -⟩ := startConditions_iff.mp hstart
      split
      next happlied =>
        exact ⟨fun _ => htank, fun _ => h.wait hs, fun _ => .inl happlied.2, by simp [enterRunning],
          by simp [enterRunning, hrest.service], by simp [enterRunning], by simp [enterRunning], by simp [enterRunning],
          h.grace, h.heldMode, fun hm => absurd hm hmode⟩
      next =>
        exact hrest.law (by simp [hs]) (fun _ => hstart) (fun _ => h.wait hs) (by simp [hs]) fun hm => absurd hm hmode
    next => exact leaveAirflowWait_law hrest _
  next hs => exact deliverRunning_law h hs
  next hs => exact deliverDefrost_law h hs
  next hs =>
    have hrest : Resting mode ds := h.resting (by simp [hs]) (hserv (by simp [hs]))
    split
    next => exact goIdle_law hrest
    next hblocked =>
      refine hrest.law (by simp [hs]) (by simp [hs]) (by simp [hs]) (fun _ => ?_) (by simp [hs])
      by_cases he : ev = .tank
      · simpa [he] using hblocked
      · exact h.hold he hs
  next hs =>
    exact (h.resting (by simp [hs]) (hserv (by simp [hs]))).law (by simp [hs]) (by simp [hs]) (by simp [hs]) (by simp [hs])
      (by simp [hs])

/-! ### Timers and requests -/

theorem SequencerLaw.resting (h : SequencerLaw mode coilMinimum ds) (hr : ds.state ≠ .running) (hi : ds.state ≠ .idle) :
    Resting mode ds := by
  have hserv : ds.service = false := by
    cases hv : ds.service
    · rfl
    · exact absurd (h.service hv) hi
  refine ⟨?_, hserv, h.grace, h.heldMode⟩
  have := h.output
  cases hc : ds.compressor <;> simp_all

/-- In Idle without the service compressor the output is off. -/
theorem SequencerLaw.resting_idle (h : SequencerLaw mode coilMinimum ds) (hi : ds.state = .idle) (hv : ds.service = false) :
    Resting mode ds := by
  refine ⟨?_, hv, h.grace, h.heldMode⟩
  have := h.output
  cases hc : ds.compressor <;> simp_all

/-- The law without the off timer. -/
theorem SequencerLaw.offEnded (h : SequencerLaw mode coilMinimum ds) :
    SequencerLaw mode coilMinimum { ds with offLeft := none } :=
  { h with off := fun _ => rfl, wait := fun _ => rfl }

theorem enterAirflowWait_law (h : Resting mode ds) (hstart : startConditions ds = true) (hoff : ds.offLeft = none) :
    SequencerLaw mode coilMinimum (enterAirflowWait coilMinimum ds).1 := by
  have hidle : startConditions { ds with state := .idle } = true := by
    rw [startConditions_iff] at hstart ⊢
    obtain ⟨h1, h2, h3, h4, h5, h6, -⟩ := hstart
    exact ⟨h1, h2, h3, h4, h5, h6, by simp⟩
  have := evaluateIdle_law (coilMinimum := coilMinimum) (ds := { ds with state := .idle })
    ⟨h.compressor, h.service, h.grace, h.heldMode⟩ rfl
  unfold evaluateIdle at this
  rw [if_pos hidle, if_neg (by simp [hoff])] at this
  exact this

theorem offExpiry_law (h : SequencerLaw mode coilMinimum ds) :
    SequencerLaw mode coilMinimum (offExpiry coilMinimum ds).1 := by
  unfold offExpiry
  split
  · exact h
  · dsimp only
    split
    next hs =>
      have hrest := h.resting (by simp [hs]) (by simp [hs])
      exact enterAirflowWait_law ⟨hrest.compressor, hrest.service, hrest.grace, hrest.heldMode⟩ (h.start (.inl hs)) rfl
    next hs =>
      split
      · exact h.offEnded
      next hv =>
        have hrest := h.resting_idle hs (by simpa using hv)
        exact evaluateIdle_law ⟨hrest.compressor, hrest.service, hrest.grace, hrest.heldMode⟩ hs
    · exact h.offEnded

theorem onExpiry_law (h : SequencerLaw mode coilMinimum ds) :
    SequencerLaw mode coilMinimum (onExpiry coilMinimum ds).1 := by
  unfold onExpiry
  split
  · exact h
  · dsimp only
    split
    · exact stopRunning_law h.heldMode _ (by simp)
    · exact { h with }

theorem waitExpiry_law (h : SequencerLaw mode coilMinimum ds) :
    SequencerLaw mode coilMinimum (waitExpiry coilMinimum ds).1 := by
  unfold waitExpiry
  split
  · exact h
  · split
    next hs =>
      have hrest := h.resting (by simp [hs]) (by simp [hs])
      exact leaveAirflowWait_law (ds := { ds with offLeft := some offTime })
        ⟨hrest.compressor, hrest.service, hrest.grace, hrest.heldMode⟩ _
    · exact { h with }

theorem graceExpiry_law (h : SequencerLaw mode coilMinimum ds) :
    SequencerLaw mode coilMinimum (graceExpiry coilMinimum ds).1 := by
  unfold graceExpiry
  split
  · exact h
  · split
    · exact stopRunning_law h.heldMode _ (by simp)
    next hs =>
      split
      next hc =>
        have hv := (h.output.mp hc).resolve_left hs
        have hi := h.service hv
        exact (compressorOff_resting h.heldMode .airflowLow).law hs (by simp [compressorOff, hi])
          (by simp [compressorOff, hi]) (by simp [compressorOff, hi]) (by simp [compressorOff, hi])
      next hc => exact { h with airflow := fun h => absurd h hc, grace := Nat.zero_le _ }

theorem frostExpiry_law (h : SequencerLaw mode coilMinimum ds) : SequencerLaw mode coilMinimum (frostExpiry ds).1 := by
  unfold frostExpiry
  split
  · exact h
  · split
    next hs =>
      refine Resting.law ⟨rfl, rfl, Nat.zero_le _, h.heldMode⟩ (by simp) (by simp) (by simp) (by simp) fun hm => ?_
      have := h.serviceMode hm
      simp [hs] at this
    · exact { h with }

theorem defrostExpiry_law (h : SequencerLaw mode coilMinimum ds) :
    SequencerLaw mode coilMinimum (defrostExpiry coilMinimum ds).1 := by
  unfold defrostExpiry
  split
  · exact h
  · dsimp only
    split
    next hs =>
      have hrest := h.resting (by simp [hs]) (by simp [hs])
      split
      · exact Resting.law ⟨hrest.compressor, hrest.service, hrest.grace, hrest.heldMode⟩ (by simp) (by simp) (by simp)
          (by simp) (by simp)
      · exact endDefrost_law ⟨hrest.compressor, hrest.service, hrest.grace, hrest.heldMode⟩
    · exact { h with }

theorem clearLockout_law (h : SequencerLaw mode coilMinimum ds) :
    SequencerLaw mode coilMinimum (clearLockout coilMinimum ds).1 := by
  unfold clearLockout
  split
  next hs =>
    have hrest := h.resting (by simp [hs]) (by simp [hs])
    exact goIdle_law ⟨hrest.compressor, hrest.service, hrest.grace, hrest.heldMode⟩
  · exact h

/-- Service Drive in the mode Service, where the sequencer is at rest: a start that is not refused meets the law (R133). -/
theorem serviceOn_law (h : SequencerLaw .service coilMinimum ds)
    (hr : ds.service = true ∨ refusesCompressor coilMinimum ds = false) :
    SequencerLaw .service coilMinimum (serviceOn ds) := by
  unfold serviceOn
  split
  · exact h
  next hv =>
    have hpass := hr.resolve_left hv
    simp only [refusesCompressor, Bool.or_eq_false_iff, decide_eq_false_iff_not, beq_eq_false_iff_ne, ne_eq,
      Option.isSome_eq_false_iff, Option.isNone_iff_eq_none] at hpass
    obtain ⟨⟨⟨htank, hoff⟩, happlied⟩, hlock⟩ := hpass
    have hidle : ds.state = .idle := by
      rcases h.serviceMode (h.heldMode rfl) with hs | hs | hs
      · exact hs
      · rw [h.hold hs] at htank
        exact absurd htank (by simp)
      · exact absurd hs hlock
    exact ⟨fun _ => htank, fun _ => hoff, fun _ => .inl (by dsimp only; omega), by simp, fun _ => hidle, h.start, h.wait, h.hold,
      h.grace, h.heldMode, h.serviceMode⟩

theorem serviceOff_law (h : SequencerLaw mode coilMinimum ds) : SequencerLaw mode coilMinimum (serviceOff ds) := by
  unfold serviceOff
  split
  next hv =>
    have hi := h.service hv
    exact (compressorOff_resting h.heldMode .service).law (by simp [compressorOff, hi]) (by simp [compressorOff, hi])
      (by simp [compressorOff, hi]) (by simp [compressorOff, hi]) (by simp [compressorOff, hi])
  · exact h

/-- A changed coil minimum is checked against the duty held (R125). -/
theorem coilMinimumLoaded_law {new : Nat} (h : SequencerLaw mode coilMinimum ds) :
    SequencerLaw mode new (coilMinimumLoaded coilMinimum new ds) := by
  unfold coilMinimumLoaded
  split
  next he => exact he ▸ h
  next =>
    obtain ⟨htank, hoff, -, hout, hserv, hstart, hwait, hhold, hgrace, hheld, hmode⟩ := h
    by_cases hst : ds.state = .readyWait ∨ ds.state = .airflowWait
    · have hc : ¬ ds.compressor = true := by
        intro hc
        rcases hout.mp hc with hr | hv
        · simp [hr] at hst
        · simp [hserv hv] at hst
      unfold watchGrace
      rw [if_neg hc]
      exact ⟨htank, hoff, fun h => absurd h hc, hout, hserv, hstart, hwait, hhold, hgrace, hheld, hmode⟩
    · exact watchGrace_law ⟨fun _ => htank, hoff, fun h => absurd rfl h, hout, hserv, hwait, fun _ => hhold, hgrace, hheld,
        fun _ => hmode⟩ (not_or.mp hst)

/-- A millisecond keeps the law: only timers count down. -/
theorem advanceSequencer_law (h : SequencerLaw mode coilMinimum ds) :
    SequencerLaw mode coilMinimum (advanceSequencer ds) := by
  have hnone : ds.offLeft = none → countDown ds.offLeft = none := by intro h; rw [h]; rfl
  have hgrace : ∀ n, ds.graceLeft = some n → (advanceSequencer ds).graceLeft = some (n - 1) := by
    intro n hn
    unfold advanceSequencer
    rw [hn]
    rfl
  refine ⟨h.tank, fun hc => hnone (h.off hc), fun hc => ?_, h.output, h.service, h.start, fun hs => hnone (h.wait hs),
    h.hold, ?_, h.heldMode, h.serviceMode⟩
  · rcases h.airflow hc with ha | ⟨n, hn, hle⟩
    · exact .inl ha
    · exact .inr ⟨n - 1, hgrace n hn, (Nat.sub_le n 1).trans hle⟩
  · have hle := h.grace
    cases hg : ds.graceLeft with
    | none => simp [advanceSequencer, hg, countDown, leftOf]
    | some n =>
      rw [hg] at hle
      rw [hgrace n hg]
      exact (Nat.sub_le n 1).trans hle

end Blocks

/-! ### The off timer of a compressor that is off -/

/-- The compressor is on, or the off timer stands at its full length. -/
def OffAfresh (ds : Sequencer) : Prop := ds.compressor = true ∨ ds.offLeft = some 180000

/-- The output and the off timer are as they were, or the compressor is on, or it has just gone off: whatever leads from one
sequencer to the other, no compressor off has gone by without starting the off timer afresh (R117). -/
def OffKept (ds ds' : Sequencer) : Prop :=
  (ds'.compressor = ds.compressor ∧ ds'.offLeft = ds.offLeft) ∨ OffAfresh ds'

theorem OffKept.afresh {ds ds' : Sequencer} (h : OffKept ds ds') (ha : OffAfresh ds) : OffAfresh ds' := by
  rcases h with ⟨hc, ho⟩ | h
  · unfold OffAfresh
    rw [hc, ho]
    exact ha
  · exact h

section Off
variable (coilMinimum : Nat) (ds : Sequencer)

theorem evaluateIdle_off : OffKept ds (evaluateIdle coilMinimum ds).1 := by
  unfold evaluateIdle
  split
  · split
    · exact .inl ⟨rfl, rfl⟩
    · unfold enterAirflowWait
      dsimp only
      split
      · exact .inr (.inl rfl)
      · exact .inl ⟨rfl, rfl⟩
  · exact .inl ⟨rfl, rfl⟩

theorem goIdle_off : OffKept ds (goIdle coilMinimum ds).1 := evaluateIdle_off coilMinimum { ds with state := .idle }

theorem stopRunning_off (cause : CompressorFinish) : OffAfresh (stopRunning coilMinimum cause ds).1 := by
  unfold stopRunning
  dsimp only
  split
  · exact .inr rfl
  · exact (goIdle_off coilMinimum _).afresh (.inr rfl)

theorem watchGrace_off : OffKept ds (watchGrace coilMinimum ds) := by
  unfold watchGrace
  split
  · split
    · split <;> exact .inl ⟨rfl, rfl⟩
    · exact .inl ⟨rfl, rfl⟩
  · exact .inl ⟨rfl, rfl⟩

theorem endDefrost_off : OffKept ds (endDefrost coilMinimum ds).1 := by
  unfold endDefrost
  dsimp only
  split
  · exact .inl ⟨rfl, rfl⟩
  · exact goIdle_off coilMinimum _

theorem deliverService_off (ev : DsEvent) : OffKept ds (deliverService coilMinimum ev ds).1 := by
  unfold deliverService
  split
  · split
    · exact .inr (.inr rfl)
    · exact .inl ⟨rfl, rfl⟩
  · split
    · exact .inr ((evaluateIdle_off coilMinimum _).afresh (.inr rfl))
    · exact .inl ⟨rfl, rfl⟩
  · split
    · exact .inl ⟨rfl, rfl⟩
    · exact .inr ((evaluateIdle_off coilMinimum _).afresh (.inr rfl))
  · exact watchGrace_off coilMinimum ds
  · exact .inl ⟨rfl, rfl⟩

theorem deliverRunning_off (ev : DsEvent) : OffKept ds (deliverRunning coilMinimum ev ds).1 := by
  unfold deliverRunning
  split
  · exact .inr (stopRunning_off coilMinimum ds _)
  · split
    · split
      · exact .inr (stopRunning_off coilMinimum ds _)
      · exact .inl ⟨rfl, rfl⟩
    · exact watchGrace_off coilMinimum ds
    · unfold watchFrost
      split
      · split <;> exact .inl ⟨rfl, rfl⟩
      · exact .inl ⟨rfl, rfl⟩
    · exact .inl ⟨rfl, rfl⟩

theorem deliverDefrost_off (ev : DsEvent) : OffKept ds (deliverDefrost coilMinimum ev ds).1 := by
  have hstop : OffKept ds (goIdle coilMinimum { ds with defrostLeft := none }).1 := goIdle_off coilMinimum _
  unfold deliverDefrost
  dsimp only
  split
  · split
    · exact .inl ⟨rfl, rfl⟩
    · exact hstop
  · exact hstop
  · exact hstop
  · split
    · exact hstop
    · exact .inl ⟨rfl, rfl⟩
  · split
    · exact hstop
    · split
      · exact endDefrost_off coilMinimum { ds with timeouts := 0 }
      · exact .inl ⟨rfl, rfl⟩
  · exact .inl ⟨rfl, rfl⟩

/-- No delivery takes a compressor off without starting the off timer, and none ends that timer. -/
theorem dsDeliver_off (ev : DsEvent) : OffKept ds (dsDeliver coilMinimum ev ds).1 := by
  unfold dsDeliver
  split
  · split
    · exact deliverService_off coilMinimum ds ev
    · exact evaluateIdle_off coilMinimum ds
  · split
    · exact .inl ⟨rfl, rfl⟩
    · exact goIdle_off coilMinimum ds
  · split
    · split
      · exact .inr (.inl rfl)
      · exact .inl ⟨rfl, rfl⟩
    · exact goIdle_off coilMinimum _
  · exact deliverRunning_off coilMinimum ds ev
  · exact deliverDefrost_off coilMinimum ds ev
  · split
    · exact goIdle_off coilMinimum ds
    · exact .inl ⟨rfl, rfl⟩
  · exact .inl ⟨rfl, rfl⟩

theorem onExpiry_off : OffKept ds (onExpiry coilMinimum ds).1 := by
  unfold onExpiry
  split
  · exact .inl ⟨rfl, rfl⟩
  · dsimp only
    split
    · exact .inr (stopRunning_off coilMinimum _ _)
    · exact .inl ⟨rfl, rfl⟩

theorem waitExpiry_off : OffKept ds (waitExpiry coilMinimum ds).1 := by
  unfold waitExpiry
  split
  · exact .inl ⟨rfl, rfl⟩
  · split
    · exact .inr ((goIdle_off coilMinimum _).afresh (.inr rfl))
    · exact .inl ⟨rfl, rfl⟩

theorem graceExpiry_off : OffKept ds (graceExpiry coilMinimum ds).1 := by
  unfold graceExpiry
  split
  · exact .inl ⟨rfl, rfl⟩
  · split
    · exact .inr (stopRunning_off coilMinimum _ _)
    · split
      · exact .inr (.inr rfl)
      · exact .inl ⟨rfl, rfl⟩

theorem frostExpiry_off : OffKept ds (frostExpiry ds).1 := by
  unfold frostExpiry
  split
  · exact .inl ⟨rfl, rfl⟩
  · split
    · exact .inr (.inr rfl)
    · exact .inl ⟨rfl, rfl⟩

theorem defrostExpiry_off : OffKept ds (defrostExpiry coilMinimum ds).1 := by
  unfold defrostExpiry
  split
  · exact .inl ⟨rfl, rfl⟩
  · dsimp only
    split
    · split
      · exact .inl ⟨rfl, rfl⟩
      · exact endDefrost_off coilMinimum { ds with timeouts := ds.timeouts + 1 }
    · exact .inl ⟨rfl, rfl⟩

theorem clearLockout_off : OffKept ds (clearLockout coilMinimum ds).1 := by
  unfold clearLockout
  split
  · exact goIdle_off coilMinimum { ds with timeouts := 0 }
  · exact .inl ⟨rfl, rfl⟩

theorem serviceOn_off : OffKept ds (serviceOn ds) := by
  unfold serviceOn
  split
  · exact .inl ⟨rfl, rfl⟩
  · exact .inr (.inl rfl)

theorem serviceOff_off : OffKept ds (serviceOff ds) := by
  unfold serviceOff
  split
  · exact .inr (.inr rfl)
  · exact .inl ⟨rfl, rfl⟩

theorem coilMinimumLoaded_off (before new : Nat) : OffKept ds (coilMinimumLoaded before new ds) := by
  unfold coilMinimumLoaded
  split
  · exact .inl ⟨rfl, rfl⟩
  · exact watchGrace_off new ds

/-- The off timer's own expiry takes no compressor off. -/
theorem offExpiry_on (h : ds.compressor = true) : (offExpiry coilMinimum ds).1.compressor = true := by
  unfold offExpiry evaluateIdle enterAirflowWait enterRunning
  grind

end Off

end Sys2Proof.Machine

/-! The Tank Monitor, the store and the panel link: what their operations keep of the pump's limits (R142), of the store's
items and canonical form (R158 to R162), and of the bounds of the link's queues (R167, R171, R172). -/
namespace Sys2Proof.Machine

/-! ### The pump -/

/-- The limits of a run: the tank is seated and the maximum-run timer runs with at most 90 s left (R142). -/
def PumpLaw (tm : Tank) : Prop := tm.pump = .running → tm.level ≠ .absent ∧ ∃ n, tm.maxRunLeft = some n ∧ n ≤ 90000

theorem pumpInvariant_iff (tm : Tank) : pumpInvariant tm = true ↔ PumpLaw tm := by
  unfold pumpInvariant PumpLaw
  cases hp : tm.pump <;> cases tm.maxRunLeft <;> simp

section Pump
variable {tm : Tank} (fitted : Bool) (mode : UnitMode)

/-- A pump that does not run meets its limits. -/
theorem pumpLaw_of_not_running (h : tm.pump ≠ .running) : PumpLaw tm := fun hr => absurd hr h

theorem startRun_law (service : Bool) (h : tm.level ≠ .absent) : PumpLaw (startRun service tm) :=
  fun _ => ⟨h, maxRunTime, rfl, Nat.le_refl _⟩

theorem checkPump_law (h : PumpLaw tm) : PumpLaw (checkPump fitted mode tm) := by
  unfold checkPump
  split
  next hc =>
    refine startRun_law false fun hl => ?_
    simp [hl, pumpLevel] at hc
  · exact h

theorem endRun_law (cause : PumpFinish) : PumpLaw (endRun cause tm) := pumpLaw_of_not_running (by simp [endRun])

/-- A level change at the pump ends a run at Absent, so the limits hold at the new level (R142). -/
theorem pumpLevelChange_law (old : TankLevel)
    (h : tm.pump = .running → ∃ n, tm.maxRunLeft = some n ∧ n ≤ 90000) :
    PumpLaw (pumpLevelChange fitted mode old tm) := by
  unfold pumpLevelChange
  split
  next hp =>
    split
    · exact endRun_law _
    · exact endRun_law _
    next hl =>
      split
      · exact fun _ => ⟨by simp [hl], h hp⟩
      · exact pumpLaw_of_not_running (by simp [endRun])
    next hl _ _ => exact fun _ => ⟨hl, h hp⟩
  next hp =>
    split
    all_goals exact pumpLaw_of_not_running (by simp [hp])
  next hp =>
    split
    · exact checkPump_law fitted mode (pumpLaw_of_not_running (by simp))
    · exact pumpLaw_of_not_running (by simp [hp])
  next hp => exact checkPump_law fitted mode (pumpLaw_of_not_running (by simp [hp]))

theorem blockReport_pump (old : TankLevel) :
    (blockReport old tm).1.pump = tm.pump ∧ (blockReport old tm).1.maxRunLeft = tm.maxRunLeft := by
  unfold blockReport
  split
  · exact ⟨rfl, rfl⟩
  · split
    · split
      · split <;> exact ⟨rfl, rfl⟩
      · exact ⟨rfl, rfl⟩
    · exact ⟨rfl, rfl⟩

theorem settleLevel_law (h : PumpLaw tm) : PumpLaw (settleLevel fitted mode tm).1 := by
  unfold settleLevel
  dsimp only
  split
  · exact h
  · refine pumpLevelChange_law fitted mode _ ?_
    obtain ⟨hp, hm⟩ := blockReport_pump (tm := { tm with level := derivedLevel tm }) tm.level
    rw [hp, hm]
    exact fun hr => (h hr).2

/-- A change of one switch leaves the pump, its timer and the level. -/
theorem setSwitch_law (sw : TankSwitch) (x : SwitchState) (h : PumpLaw tm) : PumpLaw (setSwitch sw x tm) := by
  cases sw <;> exact h

theorem switchInput_law (sw : TankSwitch) (closed : Bool) (h : PumpLaw tm) : PumpLaw (switchInput sw closed tm) := by
  unfold switchInput
  dsimp only
  split
  · exact h
  · exact setSwitch_law sw _ h

theorem stabilityExpiry_law (sw : TankSwitch) (h : PumpLaw tm) : PumpLaw (stabilityExpiry fitted mode sw tm).1 := by
  unfold stabilityExpiry
  dsimp only
  split
  · exact h
  · split
    · exact setSwitch_law sw _ h
    · exact settleLevel_law fitted mode (setSwitch_law sw _ h)

theorem rearmExpiry_law (h : PumpLaw tm) : PumpLaw (rearmExpiry tm).1 := by
  unfold rearmExpiry
  split <;> exact h

theorem maxRunExpiry_law (h : PumpLaw tm) : PumpLaw (maxRunExpiry tm).1 := by
  unfold maxRunExpiry
  split
  · exact h
  · split
    · exact endRun_law _
    · dsimp only
      split <;> exact pumpLaw_of_not_running (by simp)

theorem restExpiry_law (h : PumpLaw tm) : PumpLaw (restExpiry fitted mode tm) := by
  unfold restExpiry
  split
  · exact h
  · exact checkPump_law fitted mode (pumpLaw_of_not_running (by simp))

theorem fittedLoaded_law (before new : Bool) (h : PumpLaw tm) : PumpLaw (fittedLoaded mode before new tm) := by
  unfold fittedLoaded
  split
  · dsimp only
    split <;> exact pumpLaw_of_not_running (by simp [endRun])
  · exact checkPump_law true mode h
  · exact h

theorem pumpMode_law (old new : UnitMode) (h : PumpLaw tm) : PumpLaw (pumpMode fitted old new tm) := by
  unfold pumpMode
  split
  · split
    · exact endRun_law _
    · exact pumpLaw_of_not_running (by simp)
    · exact h
  · split
    · split
      · exact checkPump_law fitted new (endRun_law _)
      · exact checkPump_law fitted new h
    · exact h

theorem clearPumpFault_law (h : PumpLaw tm) : PumpLaw (clearPumpFault fitted mode tm) := by
  unfold clearPumpFault
  split
  · exact checkPump_law fitted mode (pumpLaw_of_not_running (by simp))
  · exact h

theorem servicePumpOn_law (hr : pumpRefusal fitted tm = none) (h : PumpLaw tm) : PumpLaw (servicePumpOn tm) := by
  unfold servicePumpOn
  split
  · refine startRun_law true fun hl => ?_
    simp [pumpRefusal, hl] at hr
  · exact h

theorem servicePumpOff_law (h : PumpLaw tm) : PumpLaw (servicePumpOff tm) := by
  unfold servicePumpOff
  split
  · exact endRun_law _
  · exact h

theorem advanceTank_law (h : PumpLaw tm) : PumpLaw (advanceTank tm) := by
  intro hr
  obtain ⟨hl, n, hn, hle⟩ := h hr
  refine ⟨hl, n - 1, ?_, (Nat.sub_le n 1).trans hle⟩
  unfold advanceTank
  rw [hn]
  rfl

end Pump

/-! ### The store -/

/-- The size of an item and the place of a panel word (R161, R164, Table 10-2). -/
def ItemFits (x : StoreItem) : Prop :=
  match x.target with
  | .panel a => x.octets.length = 4 ∧ 512 ≤ a ∧ a ≤ 1020 ∧ a % 4 = 0
  | .bh => x.octets.length = 8
  | _ => x.octets.length = 20

/-- What every step keeps of the store: its canonical form, its queue, and the items that wait or are being written. -/
structure StoreLaw (nvs : Store) : Prop where
  wf : Memory.wf nvs.cells = true
  queue : writeQueueInvariant nvs
  items : ∀ x ∈ nvs.queue, ItemFits x
  current : ∀ w, nvs.current = some w → ItemFits w.item

/-- The octets below an address read as they did. -/
def ReadsKeptBelow (limit : Nat) (cells cells' : List Host.Cell) : Prop :=
  ∀ a < limit, Memory.read cells' a = Memory.read cells a

theorem ItemFits.address {x : StoreItem} (h : ItemFits x) : 256 ≤ targetAddress x.target := by
  unfold ItemFits at h
  cases ht : x.target with
  | panel a => rw [ht] at h; simp only [targetAddress]; omega
  | f1 | f2 | bh => simp [targetAddress]

theorem writeAll_reads {cells : List Host.Cell} (wf : Memory.wf cells = true) {a limit : Nat} (octets : List Byte)
    (h : limit ≤ a) : ReadsKeptBelow limit cells (Memory.writeAll cells a octets) := by
  intro b hb
  rw [Memory.read_writeAll wf, if_neg (by omega)]

theorem mem_of_mem_queueItem {item x : StoreItem} {queue : List StoreItem} (h : x ∈ queueItem item queue) :
    x = item ∨ x ∈ queue := by
  induction queue with
  | nil => simpa [queueItem] using h
  | cons y rest ih =>
    simp only [queueItem] at h
    split at h
    · rcases List.mem_cons.mp h with h | h
      · exact .inl h
      · exact .inr (List.mem_cons_of_mem _ h)
    · rcases List.mem_cons.mp h with h | h
      · exact .inr (h ▸ List.mem_cons_self ..)
      · exact (ih h).imp_right (List.mem_cons_of_mem _)

/-- An item takes the place of the one for its target, or joins the back: no target is named twice. -/
theorem queueItem_targets (item : StoreItem) (queue : List StoreItem) :
    (queueItem item queue).map StoreItem.target =
      if item.target ∈ queue.map StoreItem.target then queue.map StoreItem.target
      else queue.map StoreItem.target ++ [item.target] := by
  induction queue with
  | nil => simp [queueItem]
  | cons y rest ih =>
    simp only [queueItem]
    split
    next h => simp [h]
    next h =>
      have h' : ¬ item.target = y.target := fun he => h he.symm
      simp only [List.map_cons, ih, List.mem_cons, h', false_or]
      split <;> simp

theorem queueItem_nodup {item : StoreItem} {queue : List StoreItem} (h : (queue.map StoreItem.target).Nodup) :
    ((queueItem item queue).map StoreItem.target).Nodup := by
  rw [queueItem_targets]
  split
  · exact h
  next hn => exact List.nodup_append.mpr ⟨h, by simp, fun t ht u hu => by
      rw [List.mem_singleton.mp hu]; rintro rfl; exact hn ht⟩

theorem isPanelItem_target {x y : StoreItem} (h : x.target = y.target) : isPanelItem x = isPanelItem y := by
  unfold isPanelItem
  rw [h]

/-- The number of waiting panel items as a count of targets. -/
theorem panel_count (queue : List StoreItem) :
    (queue.filter isPanelItem).length = (queue.map StoreItem.target).countP fun t => isPanelItem ⟨t, []⟩ := by
  rw [← List.countP_eq_length_filter, List.countP_map]
  rfl

/-- An item may be handed over: it fits, and where it is a panel item no other panel word waits (R164). -/
def MayHand (item : StoreItem) (queue : List StoreItem) : Prop :=
  ItemFits item ∧ (isPanelItem item = true → ∀ x ∈ queue, isPanelItem x = true → x.target = item.target)

theorem queueItem_panels {item : StoreItem} {queue : List StoreItem} (h : (queue.filter isPanelItem).length ≤ 1)
    (hand : MayHand item queue) : ((queueItem item queue).filter isPanelItem).length ≤ 1 := by
  rw [panel_count] at h ⊢
  rw [queueItem_targets]
  split
  · exact h
  next hn =>
    rw [List.countP_append]
    by_cases hp : isPanelItem item = true
    · have hzero : (queue.map StoreItem.target).countP (fun t => isPanelItem ⟨t, []⟩) = 0 := by
        rw [List.countP_eq_zero]
        intro t ht hpt
        obtain ⟨x, hx, rfl⟩ := List.mem_map.mp ht
        have hpx : isPanelItem x = true := hpt
        exact hn (hand.2 hp x hx hpx ▸ List.mem_map_of_mem hx)
      rw [hzero]
      rw [Nat.zero_add]
      exact List.countP_le_length
    · have : isPanelItem ⟨item.target, []⟩ = false :=
        (isPanelItem_target (x := ⟨item.target, []⟩) (y := item) rfl).trans (by simpa using hp)
      simpa [this] using h

theorem beginWrite_law {nvs : Store} (h : StoreLaw nvs) :
    StoreLaw (beginWrite nvs) ∧ ReadsKeptBelow 256 nvs.cells (beginWrite nvs).cells := by
  unfold beginWrite
  split
  next item rest hc hq =>
    have hitem : ItemFits item := h.items item (by rw [hq]; exact List.mem_cons_self ..)
    obtain ⟨hnodup, hpanel⟩ := h.queue
    rw [hq] at hnodup hpanel
    refine ⟨⟨Memory.wf_writeAll h.wf, ⟨(List.nodup_cons.mp hnodup).2, ?_⟩, fun x hx => ?_, fun w hw => ?_⟩,
      writeAll_reads h.wf _ hitem.address⟩
    · exact (List.Sublist.length_le (List.Sublist.filter _ (List.sublist_cons_self item rest))).trans hpanel
    · exact h.items x (by rw [hq]; exact List.mem_cons_of_mem _ hx)
    · obtain rfl := Option.some.inj hw
      exact hitem
  next => exact ⟨h, fun _ _ => rfl⟩

theorem handItem_law {item : StoreItem} {nvs : Store} (hand : MayHand item nvs.queue) (h : StoreLaw nvs) :
    StoreLaw (handItem item nvs) ∧ ReadsKeptBelow 256 nvs.cells (handItem item nvs).cells := by
  refine beginWrite_law (nvs := { nvs with queue := queueItem item nvs.queue }) ⟨h.wf, ⟨?_, ?_⟩, ?_, h.current⟩
  · exact queueItem_nodup h.queue.1
  · exact queueItem_panels h.queue.2 hand
  · intro x hx
    rcases mem_of_mem_queueItem hx with rfl | hx
    · exact hand.1
    · exact h.items x hx

theorem wordDone_law {nvs : Store} (h : StoreLaw nvs) :
    StoreLaw (wordDone nvs) ∧ ReadsKeptBelow 256 nvs.cells (wordDone nvs).cells := by
  unfold wordDone
  split
  · exact ⟨h, fun _ _ => rfl⟩
  next w hw =>
    have haddress : 256 ≤ targetAddress w.item.target + 4 * (w.wordsLeft - 1) :=
      (h.current w hw).address.trans (Nat.le_add_right ..)
    have hreads := writeAll_reads h.wf ((w.item.octets.drop (4 * (w.wordsLeft - 1))).take 4) haddress
    dsimp only
    split
    · obtain ⟨hlaw, hbegun⟩ := beginWrite_law (nvs := { nvs with
        cells := Memory.writeAll nvs.cells (targetAddress w.item.target + 4 * (w.wordsLeft - 1))
          ((w.item.octets.drop (4 * (w.wordsLeft - 1))).take 4)
        current := none }) ⟨Memory.wf_writeAll h.wf, h.queue, h.items, by simp⟩
      exact ⟨hlaw, fun a ha => (hbegun a ha).trans (hreads a ha)⟩
    · refine ⟨⟨Memory.wf_writeAll h.wf, h.queue, h.items, fun v hv => ?_⟩, hreads⟩
      obtain rfl := Option.some.inj hv
      exact h.current w hw

/-- At most one item for each service slot and one panel item: four (R162). -/
theorem StoreLaw.queue_length {nvs : Store} (h : StoreLaw nvs) : nvs.queue.length ≤ 4 := by
  obtain ⟨hnodup, hpanel⟩ := h.queue
  have hservice : (nvs.queue.filter fun x => !isPanelItem x).length ≤ 3 := by
    have hsub : ((nvs.queue.filter fun x => !isPanelItem x).map StoreItem.target).Nodup :=
      hnodup.sublist ((List.filter_sublist).map _)
    have hslots : (nvs.queue.filter fun x => !isPanelItem x).map StoreItem.target ⊆ [.f1, .f2, .bh] := by
      intro t ht
      obtain ⟨x, hx, rfl⟩ := List.mem_map.mp ht
      obtain ⟨-, hx⟩ := List.mem_filter.mp hx
      unfold isPanelItem at hx
      cases hxt : x.target <;> simp_all
    simpa using (hsub.subperm hslots).length_le
  have := List.length_eq_length_filter_add (l := nvs.queue) isPanelItem
  omega

theorem advanceStore_law {nvs : Store} (h : StoreLaw nvs) : StoreLaw (advanceStore nvs) := by
  refine ⟨h.wf, h.queue, h.items, fun w hw => ?_⟩
  unfold advanceStore at hw
  obtain ⟨v, hv, rfl⟩ := Option.map_eq_some_iff.mp hw
  exact h.current v hv

/-! ### Checkpoints -/

theorem recordOctets_length (k0 k1 : Byte) (data : List Byte) : (recordOctets k0 k1 data).length = data.length + 4 := by
  simp [recordOctets]

theorem fillWords_length (octets : List Byte) : (fillWords octets).length = octets.length + (4 - octets.length % 4) % 4 := by
  simp [fillWords]

theorem runHourItem_fits (seconds : Nat) : ItemFits (runHourItem seconds) ∧ isPanelItem (runHourItem seconds) = false := by
  refine ⟨?_, rfl⟩
  simp [ItemFits, runHourItem, fillWords_length, recordOctets_length]

theorem stageData_length (r : StageRecord) : (stageData r).length = 14 := by simp [stageData]

theorem stageItem_fits (fine : Bool) (r : StageRecord) :
    ItemFits (stageItem fine r) ∧ isPanelItem (stageItem fine r) = false := by
  cases fine <;> exact ⟨by simp [ItemFits, stageItem, fillWords_length, recordOctets_length, stageData_length], rfl⟩

/-! ### The panel link -/

/-- The bounds of the link's queues with at most `replies` Replies in the upward queue (R167, R171, R172). -/
structure PanelWithin (replies : Nat) (pl : Panel) : Prop where
  relay : countFrames .relay pl.upward ≤ 16
  reply : countFrames .reply pl.upward ≤ replies
  notice : countFrames .notice pl.upward ≤ 4
  distinct : pl.pending.Nodup
  requests : pl.requests.length ≤ 4

@[simp] theorem countFrames_append (kind : FrameKind) (a b : List Frame) :
    countFrames kind (a ++ b) = countFrames kind a + countFrames kind b := by
  simp [countFrames]

@[simp] theorem countFrames_cons (kind : FrameKind) (f : Frame) (rest : List Frame) :
    countFrames kind (f :: rest) = (if f.kind = kind then 1 else 0) + countFrames kind rest := by
  unfold countFrames
  by_cases h : f.kind = kind
  · simp [h, Nat.add_comm]
  · simp [h]

@[simp] theorem countFrames_nil (kind : FrameKind) : countFrames kind [] = 0 := rfl

theorem takeNotice_some {mask : BitVec 24} {pending left : List PendingNotice} {e : PendingNotice}
    (h : takeNotice mask pending = some (e, left)) : left.Sublist pending := by
  induction pending generalizing left with
  | nil => simp [takeNotice] at h
  | cons x rest ih =>
    simp only [takeNotice] at h
    split at h
    · obtain ⟨rfl, rfl⟩ := h
      exact List.sublist_cons_self ..
    · split at h
      next y more hy =>
        obtain ⟨rfl, rfl⟩ := h
        exact (ih hy).cons_cons _
      next => cases h

variable {replies : Nat} {pl : Panel}

theorem formNotices_within (n : Nat) (h : PanelWithin replies pl) : PanelWithin replies (formNotices n pl) := by
  induction n generalizing pl with
  | zero => exact h
  | succ n ih =>
    simp only [formNotices]
    split
    next hroom =>
      split
      next e left ht =>
        refine ih ⟨?_, ?_, ?_, h.distinct.sublist (takeNotice_some ht), h.requests⟩
        · simpa using h.relay
        · simpa using h.reply
        · simpa using hroom
      · exact h
    · exact h

theorem startSending_within (h : PanelWithin replies pl) : PanelWithin replies (startSending pl) := by
  unfold startSending
  split
  next f rest hs hu =>
    obtain ⟨hrelay, hreply, hnotice, hd, hr⟩ := h
    rw [hu, countFrames_cons] at hrelay hreply hnotice
    exact ⟨by dsimp only; omega, by dsimp only; omega, by dsimp only; omega, hd, hr⟩
  · exact h

theorem pump_within (h : PanelWithin replies pl) : PanelWithin replies (pump pl) :=
  formNotices_within 4 (startSending_within (formNotices_within 4 h))

theorem post_within (kind : NoticeKind) (subject : Option Byte) (h : PanelWithin replies pl) :
    PanelWithin replies (post kind subject pl) := by
  unfold post
  refine pump_within ?_
  split
  · exact h
  next hn =>
    refine ⟨h.relay, h.reply, h.notice, ?_, h.requests⟩
    exact List.nodup_append.mpr ⟨h.distinct, by simp, fun a ha b hb => by
      rw [List.mem_singleton.mp hb]; rintro rfl; exact hn ha⟩

theorem countFrames_dropOldestRelay (frames : List Frame) :
    countFrames .relay (dropOldestRelay frames) = countFrames .relay frames - 1
      ∧ countFrames .reply (dropOldestRelay frames) = countFrames .reply frames
      ∧ countFrames .notice (dropOldestRelay frames) = countFrames .notice frames := by
  induction frames with
  | nil => exact ⟨rfl, rfl, rfl⟩
  | cons f rest ih =>
    simp only [dropOldestRelay]
    split
    next h => simp [h]
    next h =>
      obtain ⟨h1, h2, h3⟩ := ih
      simp [h, h1, h2, h3]

theorem placeRelay_within (payload : List Byte) (h : PanelWithin replies pl) :
    PanelWithin replies (placeRelay payload pl) := by
  unfold placeRelay
  dsimp only
  refine pump_within ?_
  obtain ⟨hrelay, hreply, hnotice⟩ := countFrames_dropOldestRelay pl.upward
  have h1 := h.relay
  have h2 := h.reply
  have h3 := h.notice
  split
  · exact ⟨by simp; omega, by simp; omega, by simp; omega, h.distinct, h.requests⟩
  · exact ⟨by simp; omega, by simpa using h2, by simpa using h3, h.distinct, h.requests⟩

/-- A Reply takes one of the places for Replies. -/
theorem placeReply_within (tag number : Byte) (status : Status) (data : List Byte) (h : PanelWithin replies pl) :
    PanelWithin (replies + 1) (placeReply tag number status data pl) := by
  unfold placeReply
  dsimp only
  refine pump_within ?_
  split
  all_goals exact ⟨by simpa using h.relay, by simpa using h.reply, by simpa using h.notice, h.distinct, h.requests⟩

theorem queueRequest_within (tag : Byte) (payload : List Byte) (h : PanelWithin replies pl) :
    PanelWithin replies (queueRequest tag payload pl) := by
  unfold queueRequest
  split
  next hr => exact ⟨h.relay, h.reply, h.notice, h.distinct, by simp; omega⟩
  · exact ⟨h.relay, h.reply, h.notice, h.distinct, h.requests⟩

theorem panelWithin_four_iff (pl : Panel) :
    PanelWithin 4 pl ↔ upwardInvariant pl = true ∧ noticesDistinct pl ∧ pl.requests.length ≤ 4 := by
  simp only [upwardInvariant, noticesDistinct, Bool.and_eq_true, decide_eq_true_eq]
  exact ⟨fun ⟨h1, h2, h3, h4, h5⟩ => ⟨⟨⟨h1, h2⟩, h3⟩, h4, h5⟩, fun ⟨⟨⟨h1, h2⟩, h3⟩, h4, h5⟩ => ⟨h1, h2, h3, h4, h5⟩⟩

/-- Every frame is a Relay, a Reply or a Notice. -/
theorem length_eq_countFrames (frames : List Frame) :
    frames.length = countFrames .relay frames + countFrames .reply frames + countFrames .notice frames := by
  induction frames with
  | nil => rfl
  | cons f rest ih =>
    simp only [List.length_cons, countFrames_cons, ih]
    cases f.kind <;> simp <;> omega

end Sys2Proof.Machine

/-! The filter accounts, the zones and the down queue: the bounds of the accounts (R98, R100, R101), the table entries that no
update of a zone touches, and the down queue that no use of the line lengthens (R20). -/
namespace Sys2Proof.Machine

/-! ### The filter accounts -/

/-- Two stage records agree in the fields that the account's bounds are about. -/
def SameAccount (r r' : StageRecord) : Prop :=
  r'.remainder = r.remainder ∧ r'.dose = r.dose ∧ r'.held = r.held ∧ r'.life = r.life

/-- The bounds of an account (R98, R100, R101). -/
def AccountBounded (r : StageRecord) : Prop :=
  r.remainder < 3600000000 ∧ r.dose ≤ 4294967295 ∧ r.held ≤ 1999 ∧ r.life ≤ 1999

theorem stageInvariant_iff (r : StageRecord) : stageInvariant r = true ↔ AccountBounded r := by
  simp [stageInvariant, AccountBounded, and_assoc]

theorem filtersInvariant_iff (fs : Filters) :
    filtersInvariant fs = true ↔ AccountBounded fs.pre ∧ AccountBounded fs.fine := by
  simp [filtersInvariant, stageInvariant_iff]

theorem SameAccount.refl (r : StageRecord) : SameAccount r r := ⟨rfl, rfl, rfl, rfl⟩

theorem SameAccount.trans {a b c : StageRecord} (h : SameAccount a b) (h' : SameAccount b c) : SameAccount a c := by
  obtain ⟨h1, h2, h3, h4⟩ := h
  obtain ⟨k1, k2, k3, k4⟩ := h'
  exact ⟨k1.trans h1, k2.trans h2, k3.trans h3, k4.trans h4⟩

theorem SameAccount.bounded {r r' : StageRecord} (h : SameAccount r r') (hb : AccountBounded r) : AccountBounded r' := by
  obtain ⟨h1, h2, h3, h4⟩ := h
  unfold AccountBounded
  rw [h1, h2, h3, h4]
  exact hb

theorem detectMissing_account (cls : FilterClass) (s : Nat) (dp : Option Nat) (r : StageRecord) :
    SameAccount r (detectMissing cls s dp r).1 := by
  unfold detectMissing
  split
  · split
    · split <;> exact SameAccount.refl r
    · exact SameAccount.refl r
  · split
    · split <;> exact SameAccount.refl r
    · exact SameAccount.refl r

theorem deriveState_account (fine : Bool) (cls : FilterClass) (r : StageRecord) :
    SameAccount r (deriveState fine cls r).1 := by
  unfold deriveState
  split
  · exact SameAccount.refl r
  · dsimp only
    split
    · exact SameAccount.refl r
    · split <;> exact SameAccount.refl r

theorem markUnsaved_account (before r : StageRecord) : SameAccount r (markUnsaved before r) := by
  unfold markUnsaved
  split <;> exact SameAccount.refl r

theorem decideCheckpoint_account (fine moved : Bool) (r : StageRecord) :
    SameAccount r (decideCheckpoint fine moved r).1 := by
  unfold decideCheckpoint
  split <;> exact SameAccount.refl r

theorem restartStage_account (classes : Quad FilterClass) (r : StageRecord) :
    SameAccount r (restartStage classes r) := by
  unfold restartStage
  dsimp only
  split
  · exact SameAccount.refl r
  · split <;> exact SameAccount.refl r

theorem capture_bounded (c q dt : Nat) (cls : FilterClass) {r : StageRecord} (h : AccountBounded r) :
    AccountBounded (capture c q dt cls r) :=
  ⟨Nat.mod_lt _ (by decide), Nat.min_le_left .., h.2.2⟩

theorem doseLife_le (cls : FilterClass) (dose : Nat) : doseLife cls dose ≤ 1999 := Nat.min_le_left ..

theorem pressureLife_le (cls : FilterClass) (dp : Nat) : pressureLife cls dp ≤ 1999 := by
  unfold pressureLife
  split
  · omega
  · exact Nat.min_le_left ..

theorem heldPressure_le (cls : FilterClass) (s : Nat) (dp : Option Nat) {r : StageRecord} (h : r.held ≤ 1999) :
    heldPressure cls s dp r ≤ 1999 := by
  unfold heldPressure
  split
  · split
    · exact Nat.max_le.mpr ⟨h, pressureLife_le cls _⟩
    · exact h
  · exact h

section Reading
variable (mode : UnitMode) (speed : Nat) (fs : Filters) (stamp : Word) (fields : Reading) (du : Dose)

theorem doseReading_bounded (hpre : AccountBounded fs.pre) (hfine : AccountBounded fs.fine) :
    AccountBounded (doseReading mode speed fs stamp fields du).pre
      ∧ AccountBounded (doseReading mode speed fs stamp fields du).fine := by
  have lives : ∀ {r : StageRecord} {held life : Nat}, AccountBounded r → held ≤ 1999 → life ≤ 1999 →
      AccountBounded { r with held := held, life := life } := fun h hh hl => ⟨h.1, h.2.1, hh, hl⟩
  have hheld := fun cls s => heldPressure_le cls s fields.pressure hfine.2.2.1
  unfold doseReading
  dsimp only
  refine ⟨?_, ?_⟩
  · have hcap := fun c q dt => capture_bounded c q dt (fs.classes.get fs.pre.number) hpre
    exact ⟨(hcap _ _ _).1, (hcap _ _ _).2.1, hpre.2.2.1, Nat.max_le.mpr ⟨doseLife_le _ _, hpre.2.2.2⟩⟩
  · split
    · exact lives hfine (hheld _ _) (Nat.max_le.mpr ⟨Nat.max_le.mpr ⟨doseLife_le _ _, hheld _ _⟩, hfine.2.2.2⟩)
    · exact lives (capture_bounded _ _ _ _ hfine) (hheld _ _)
        (Nat.max_le.mpr ⟨Nat.max_le.mpr ⟨doseLife_le _ _, hheld _ _⟩, hfine.2.2.2⟩)

theorem doseReading_curves : (doseReading mode speed fs stamp fields du).dose.curve = du.curve
    ∧ (doseReading mode speed fs stamp fields du).dose.factoryCurve = du.factoryCurve := ⟨rfl, rfl⟩

/-- A unit reading keeps the bounds of both accounts. -/
theorem stageReading_bounded (hpre : AccountBounded fs.pre) (hfine : AccountBounded fs.fine) :
    AccountBounded (stageReading mode speed stamp fields du fs).2.1.pre
      ∧ AccountBounded (stageReading mode speed stamp fields du fs).2.1.fine := by
  obtain ⟨h1, h2⟩ := doseReading_bounded mode speed fs stamp fields du hpre hfine
  unfold stageReading
  dsimp only
  refine ⟨?_, ?_⟩
  · exact (decideCheckpoint_account ..).bounded ((markUnsaved_account ..).bounded ((deriveState_account ..).bounded h1))
  · exact (decideCheckpoint_account ..).bounded ((markUnsaved_account ..).bounded ((deriveState_account ..).bounded
      ((detectMissing_account ..).bounded h2)))

theorem stageReading_tables : (stageReading mode speed stamp fields du fs).1.curve = du.curve
    ∧ (stageReading mode speed stamp fields du fs).1.factoryCurve = du.factoryCurve
    ∧ (stageReading mode speed stamp fields du fs).2.1.classes = fs.classes
    ∧ (stageReading mode speed stamp fields du fs).2.1.factoryClasses = fs.factoryClasses := ⟨rfl, rfl, rfl, rfl⟩

end Reading

theorem filtersMode_kept (new : UnitMode) (fs : Filters) :
    SameAccount fs.pre (filtersMode new fs).1.pre ∧ SameAccount fs.fine (filtersMode new fs).1.fine
      ∧ (filtersMode new fs).1.classes = fs.classes ∧ (filtersMode new fs).1.factoryClasses = fs.factoryClasses := by
  unfold filtersMode
  split
  · dsimp only
    refine ⟨?_, ?_, rfl, rfl⟩ <;> split <;> exact SameAccount.refl _
  · exact ⟨SameAccount.refl _, SameAccount.refl _, rfl, rfl⟩

theorem newAccount_bounded (number : Fin 4) (stamp : Word) : AccountBounded (newAccount number stamp) := by
  simp [AccountBounded, newAccount]

theorem replaceFilter_kept (fine : Bool) (number : Fin 4) (stamp : Word) {fs : Filters} (hpre : AccountBounded fs.pre)
    (hfine : AccountBounded fs.fine) :
    AccountBounded (replaceFilter fine number stamp fs).1.pre ∧ AccountBounded (replaceFilter fine number stamp fs).1.fine := by
  have hnew := newAccount_bounded number stamp
  unfold replaceFilter
  dsimp only
  split
  · exact ⟨hpre, hnew⟩
  · exact ⟨hnew, hfine⟩

theorem replaceFilter_classes (fine : Bool) (number : Fin 4) (stamp : Word) (fs : Filters) :
    (replaceFilter fine number stamp fs).1.classes = fs.classes
      ∧ (replaceFilter fine number stamp fs).1.factoryClasses = fs.factoryClasses := by
  unfold replaceFilter
  dsimp only
  split <;> exact ⟨rfl, rfl⟩

theorem restoreStage_bounded (fine : Bool) (classes : Quad FilterClass) (cells : List Host.Cell) :
    AccountBounded (restoreStage fine classes cells).1 := by
  have hlost : AccountBounded StageRecord.fromNothing := by simp [AccountBounded, StageRecord.fromNothing]
  have hword : ∀ w : Word, w.toNat ≤ 4294967295 := fun w => by have := w.isLt; omega
  unfold restoreStage
  dsimp only
  split
  · split
    · split
      next h =>
        exact ⟨by simp, hword _, h.1, h.2.1⟩
      · exact hlost
    · exact hlost
  · exact hlost

/-! ### What the restored tables are -/

theorem quad_all_iff {α : Type} (p : α → Bool) (v : Quad α) : v.toList.all p = true ↔ ∀ i, p (v.get i) = true := by
  constructor
  · intro h i
    simp only [Quad.toList, List.all_cons, List.all_nil, Bool.and_eq_true] at h
    match i with
    | 0 => exact h.1
    | 1 => exact h.2.1
    | 2 => exact h.2.2.1
    | 3 => exact h.2.2.2.1
  · intro h
    simp only [Quad.toList, List.all_cons, List.all_nil, Bool.and_eq_true]
    exact ⟨h 0, h 1, h 2, h 3, trivial⟩

/-- A property of all four is kept when one is replaced by a thing that has it. -/
theorem quad_all_set {α : Type} {p : α → Bool} {v : Quad α} (i : Fin 4) {x : α} (hx : p x = true)
    (h : v.toList.all p = true) : (v.set i x).toList.all p = true := by
  rw [quad_all_iff] at h ⊢
  intro j
  by_cases hj : j = i
  · subst hj
    rw [Quad.get_set_same]
    exact hx
  · rw [Quad.get_set_other _ _ _ _ hj]
    exact h j

theorem builtInCurve_inRange : curveInRange builtInCurve = true := by decide

theorem restoreCurve_inRange (cells : List Host.Cell) : curveInRange (restoreCurve cells) = true := by
  unfold restoreCurve
  split
  · dsimp only
    split
    next h =>
      unfold curveInRange
      rw [h, Bool.and_true, beq_iff_eq]
      simp
    · exact builtInCurve_inRange
  · exact builtInCurve_inRange

theorem builtInClasses_inRange : (Quad.all builtInClass).toList.all classInRange = true := by decide

theorem restoreClasses_inRange (cells : List Host.Cell) : (restoreClasses cells).toList.all classInRange = true := by
  unfold restoreClasses
  split
  · split
    · split
      next h => simp [Quad.toList, h]
      · exact builtInClasses_inRange
    · exact builtInClasses_inRange
  · exact builtInClasses_inRange

/-! ### The zones' entries -/

/-- No zone's table entry is touched. -/
def EntriesKept (v w : Six Zone) : Prop := ∀ i, (w.get i).entry = (v.get i).entry

theorem entriesKept_map {v : Six Zone} {f : Zone → Zone} (h : ∀ z, (f z).entry = z.entry) : EntriesKept v (v.map f) := by
  intro i
  rw [Six.get_map]
  exact h _

theorem zoneReading_entry (address : Nat) (stamp : Word) (fields : Reading) (z : Zone) :
    (zoneReading address stamp fields z).entry = z.entry := by
  unfold zoneReading
  split <;> rfl

theorem zoneNodeState_entry (holdTime : Nat) (now : Word) (address : Nat) (state : NodeState) (z : Zone) :
    (zoneNodeState holdTime now address state z).entry = z.entry := by
  unfold zoneNodeState
  split
  · split <;> rfl
  · rfl

theorem zoneRetime_entry (holdTime : Nat) (now : Word) (z : Zone) : (zoneRetime holdTime now z).entry = z.entry := by
  unfold zoneRetime
  split
  · split <;> rfl
  · rfl

theorem zoneLineReset_entry (z : Zone) : (zoneLineReset z).entry = z.entry := by
  unfold zoneLineReset
  split <;> rfl

theorem zoneDemands_entry (missing active : Bool) (z : Zone) : (zoneDemands missing active z).entry = z.entry := by
  unfold zoneDemands
  split <;> rfl

theorem bindZone_entry (holdTime : Nat) (now : Word) (record : Option NodeRecord) (z : Zone) :
    (bindZone holdTime now record z).entry = z.entry := by
  unfold bindZone
  dsimp only
  split
  · rfl
  · split
    · rfl
    · split
      · rfl
      · rfl
      · split <;> rfl

theorem recompute_entries (mc : ModeControl) (dampers : Six Damper) (dmu : Demand) :
    EntriesKept dmu.zones (recompute mc dampers dmu).zones := by
  intro i
  simp only [recompute, Six.get_tabulate, Six.get_map]
  exact zoneDemands_entry _ _ _

/-! ### The down queue -/

@[simp] theorem startCycle_down (interval : Nat) (iu : Intake) : (startCycle interval iu).down = iu.down := by
  unfold startCycle
  dsimp only
  split <;> rfl

@[simp] theorem startMessage_down (iu : Intake) : (startMessage iu).down = iu.down := by
  unfold startMessage
  split <;> rfl

@[simp] theorem useFreeLine_down (interval : Option Nat) (iu : Intake) : (useFreeLine interval iu).down = iu.down := by
  unfold useFreeLine
  split
  · dsimp only
    split <;> split <;> simp
  · rfl

@[simp] theorem cycleStartReached_down (interval : Option Nat) (iu : Intake) :
    (cycleStartReached interval iu).down = iu.down := by
  unfold cycleStartReached
  split <;> simp

@[simp] theorem pollSent_down (iu : Intake) : (pollSent iu).down = iu.down := by
  unfold pollSent
  split <;> rfl

@[simp] theorem gapEnd_down (interval : Option Nat) (iu : Intake) : (gapEnd interval iu).down = iu.down := by
  unfold gapEnd
  split
  · split
    · rfl
    · rw [useFreeLine_down]; rfl
  · rfl

@[simp] theorem messageMayStart_down (iu : Intake) : (messageMayStart iu).down = iu.down := by
  unfold messageMayStart
  split <;> simp

theorem messageEnd_down (iu : Intake) : (messageEnd iu).down.length ≤ iu.down.length := by
  unfold messageEnd
  split
  · simp
  · exact Nat.le_refl _

@[simp] theorem messageWaitEnd_down (interval : Option Nat) (iu : Intake) : (messageWaitEnd interval iu).down = iu.down := by
  unfold messageWaitEnd
  split <;> simp

@[simp] theorem settleLiveness_down (unitNode address : Nat) (o : PeriodOutcome) (iu : Intake) :
    (settleLiveness unitNode address o iu).1.down = iu.down := by
  unfold settleLiveness
  split
  · rfl
  · split <;> rfl

@[simp] theorem settlePolarity_down (setting : PolaritySetting) (heard : Bool) (o : PeriodOutcome) (iu : Intake) :
    (settlePolarity setting heard o iu).1.down = iu.down := by
  unfold settlePolarity
  split
  · split
    · rfl
    · rfl
    · split
      · split <;> rfl
      · rfl
  · rfl

@[simp] theorem closePeriod_down (settings : Settings) (k : Nat) (heard : Bool) (o : PeriodOutcome) (iu : Intake) :
    (closePeriod settings k heard o iu).1.down = iu.down := by
  simp [closePeriod]

@[simp] theorem zoneOctet_down (settings : Settings) (raw : Byte) (iu : Intake) :
    (zoneOctet settings raw iu).1.down = iu.down := by
  unfold zoneOctet
  dsimp only
  split
  · split
    · split <;> rfl
    · split
      · simp
      · rfl
  · rfl

@[simp] theorem windowExpiry_down (settings : Settings) (iu : Intake) : (windowExpiry settings iu).1.down = iu.down := by
  unfold windowExpiry
  split
  · split <;> simp
  · rfl

@[simp] theorem frameExpiry_down (settings : Settings) (iu : Intake) : (frameExpiry settings iu).1.down = iu.down := by
  unfold frameExpiry
  split
  · split <;> simp
  · rfl

@[simp] theorem retime_down (old new : Option Nat) (iu : Intake) : (retime old new iu).down = iu.down := by
  unfold retime
  split
  · simp
  · simp
  · split <;> simp

@[simp] theorem polarityLoaded_down (before new : PolaritySetting) (iu : Intake) :
    (polarityLoaded before new iu).down = iu.down := by
  unfold polarityLoaded
  split
  · rfl
  · split <;> rfl

@[simp] theorem loadPollList_down (interval : Option Nat) (unitNode : Nat) (entries : List PollEntry) (iu : Intake) :
    (loadPollList interval unitNode entries iu).1.down = iu.down := by
  unfold loadPollList
  dsimp only
  rw [useFreeLine_down]
  split <;> rfl

@[simp] theorem injectReading_down (address : Nat) (fields : Reading) (iu : Intake) :
    (injectReading address fields iu).1.down = iu.down := by
  unfold injectReading
  split <;> rfl

theorem resetLine_down (interval : Option Nat) (setting : PolaritySetting) (iu : Intake) :
    (resetLine interval setting iu).down = [] := by
  unfold resetLine
  rw [useFreeLine_down]
  rfl

theorem forwardMessage_down (m : NodeMessage) (iu : Intake) : (forwardMessage m iu).down = iu.down ++ [m] := by
  unfold forwardMessage
  rw [messageMayStart_down]

end Sys2Proof.Machine

/-! What the steps of the machine keep, as one relation between states: reflexive, transitive, and met by every change that the
model makes to a block. The laws that no step may break follow from it. -/
namespace Sys2Proof.Machine

/-- From `s` the machine has come to `t` without breaking a law: whatever law holds of `s` holds of `t`, the queue of waiting
commands is as it was, and no compressor off went by without its off timer. `replies` bounds the Replies that stand. -/
structure Keeps (replies : Nat) (s t : State) : Prop where
  pending : t.pending = s.pending
  dampers : dampersInvariant s.dp = true → dampersInvariant t.dp = true
  allowance : allowanceInvariant s = true → allowanceInvariant t = true
  stall : StallLaw s.bd → StallLaw t.bd
  sequencer : SequencerLaw s.mc.mode s.mc.settings.coilMinimum s.ds → SequencerLaw t.mc.mode t.mc.settings.coilMinimum t.ds
  off : OffAfresh s.ds → OffAfresh t.ds
  pump : PumpLaw s.tm → PumpLaw t.tm
  store : StoreLaw s.nvs → StoreLaw t.nvs ∧ ReadsKeptBelow 256 s.nvs.cells t.nvs.cells
  panel : PanelWithin replies s.pl → PanelWithin replies t.pl
  down : s.iu.down.length ≤ 4 → t.iu.down.length ≤ 4
  tables : tablesInRange s = true → tablesInRange t = true
  accounts : filtersInvariant s.fs = true → filtersInvariant t.fs = true

theorem Keeps.refl (replies : Nat) (s : State) : Keeps replies s s :=
  ⟨rfl, id, id, id, id, id, id, fun h => ⟨h, fun _ _ => rfl⟩, id, id, id, id⟩

theorem Keeps.trans {replies : Nat} {s t u : State} (h : Keeps replies s t) (h' : Keeps replies t u) : Keeps replies s u where
  pending := h'.pending.trans h.pending
  dampers := h'.dampers ∘ h.dampers
  allowance := h'.allowance ∘ h.allowance
  stall := h'.stall ∘ h.stall
  sequencer := h'.sequencer ∘ h.sequencer
  off := h'.off ∘ h.off
  pump := h'.pump ∘ h.pump
  store hs := ⟨(h'.store (h.store hs).1).1,
    fun a ha => ((h'.store (h.store hs).1).2 a ha).trans ((h.store hs).2 a ha)⟩
  panel := h'.panel ∘ h.panel
  down := h'.down ∘ h.down
  tables := h'.tables ∘ h.tables
  accounts := h'.accounts ∘ h.accounts

/-! ### A change of one block -/

/-- Every table lies in its ranges, table by table. -/
structure TablesInRange (s : State) : Prop where
  zones : ∀ i, zoneEntryInRange (s.dmu.zones.get i).entry = true
  profiles : s.bd.profiles.toList.all profileInRange = true
  dampers : ∀ i, damperEntryInRange (s.dp.dampers.get i).entry = true
  curve : curveInRange s.du.curve = true
  factoryCurve : curveInRange s.du.factoryCurve = true
  classes : s.fs.classes.toList.all classInRange = true
  factoryClasses : s.fs.factoryClasses.toList.all classInRange = true
  settings : settingsInRange s.mc.settings = true

theorem tablesInRange_iff (s : State) : tablesInRange s = true ↔ TablesInRange s := by
  simp only [tablesInRange, Bool.and_eq_true, six_all_iff]
  exact ⟨fun ⟨⟨⟨⟨⟨⟨⟨h1, h2⟩, h3⟩, h4⟩, h5⟩, h6⟩, h7⟩, h8⟩ => ⟨h1, h2, h3, h4, h5, h6, h7, h8⟩,
    fun ⟨h1, h2, h3, h4, h5, h6, h7, h8⟩ => ⟨⟨⟨⟨⟨⟨⟨h1, h2⟩, h3⟩, h4⟩, h5⟩, h6⟩, h7⟩, h8⟩⟩

section Blocks
variable {replies : Nat} {s : State}

theorem keeps_line {iu : Intake} (h : s.iu.down.length ≤ 4 → iu.down.length ≤ 4) : Keeps replies s { s with iu := iu } :=
  { Keeps.refl replies s with down := h }

theorem keeps_line_of_down {iu : Intake} (h : iu.down = s.iu.down) : Keeps replies s { s with iu := iu } :=
  keeps_line (by rw [h]; exact id)

theorem keeps_panel {pl : Panel} (h : PanelWithin replies s.pl → PanelWithin replies pl) :
    Keeps replies s { s with pl := pl } :=
  { Keeps.refl replies s with panel := h }

theorem keeps_tank {tm : Tank} (h : PumpLaw s.tm → PumpLaw tm) : Keeps replies s { s with tm := tm } :=
  { Keeps.refl replies s with pump := h }

theorem keeps_store {nvs : Store} (h : StoreLaw s.nvs → StoreLaw nvs ∧ ReadsKeptBelow 256 s.nvs.cells nvs.cells) :
    Keeps replies s { s with nvs := nvs } :=
  { Keeps.refl replies s with store := h }

theorem keeps_freeUsed (n : Nat) : Keeps replies s { s with freeUsed := n } := { Keeps.refl replies s with }

theorem keeps_zones {dmu : Demand} (h : ∀ i, zoneEntryInRange (s.dmu.zones.get i).entry = true →
      zoneEntryInRange (dmu.zones.get i).entry = true) : Keeps replies s { s with dmu := dmu } :=
  { Keeps.refl replies s with
    tables := fun ht => by
      rw [tablesInRange_iff] at ht ⊢
      exact { ht with zones := fun i => h i (ht.zones i) } }

theorem keeps_entries {dmu : Demand} (h : EntriesKept s.dmu.zones dmu.zones) : Keeps replies s { s with dmu := dmu } :=
  keeps_zones fun i hi => by rw [h i]; exact hi

theorem keeps_blower {bd : Blower} (h : BlowerKept s.bd bd) : Keeps replies s { s with bd := bd } :=
  { Keeps.refl replies s with
    allowance := fun ha => by
      rw [allowanceInvariant_iff] at ha ⊢
      obtain ⟨h1, h2, h3, h4⟩ := ha
      exact ⟨h1, h.applied.trans h2, h.idle h3, (Nat.add_le_add_right h.applied _).trans h4⟩
    stall := h.stall
    tables := fun ht => by
      rw [tablesInRange_iff] at ht ⊢
      exact { ht with profiles := h.profiles ht.profiles } }

theorem keeps_dampers {v : Six Damper} (h : DampersKept s.dp.dampers v) : Keeps replies s { s with dp := ⟨v⟩ } :=
  { Keeps.refl replies s with
    dampers := fun hd => by
      unfold dampersInvariant at hd ⊢
      rw [six_all_iff] at hd ⊢
      exact fun i => (h i).law (hd i)
    allowance := fun ha => by
      rw [allowanceInvariant_iff] at ha ⊢
      obtain ⟨h1, h2, h3, h4⟩ := ha
      obtain ⟨h5, h6⟩ := h.shares h1
      exact ⟨h5, h2, h3, by dsimp only; omega⟩
    tables := fun ht => by
      rw [tablesInRange_iff] at ht ⊢
      exact { ht with dampers := fun i => by rw [(h i).entry]; exact ht.dampers i } }

/-- A ramp tick changes the blower and the dampers together (R47, R78). -/
theorem keeps_rampTick : Keeps replies s
    { s with bd := (blowerTick s.mc s.dp.dampers s.bd).1, dp := ⟨s.dp.dampers.map recordCovered⟩ } :=
  { Keeps.refl replies s with
    dampers := fun hd => by
      unfold dampersInvariant at hd ⊢
      rw [six_all_iff] at hd ⊢
      intro i
      rw [Six.get_map]
      exact (recordCovered_law _).2.1 (hd i)
    allowance := rampTick_allowance
    stall := (blowerTick_kept s.mc s.dp.dampers s.bd).2.2.1
    tables := fun ht => by
      rw [tablesInRange_iff] at ht ⊢
      refine { ht with profiles := ?_, dampers := fun i => ?_ }
      · rw [(blowerTick_kept s.mc s.dp.dampers s.bd).2.2.2]
        exact ht.profiles
      · rw [Six.get_map, (recordCovered_law _).1]
        exact ht.dampers i }

/-- A damper is set afresh by an entry in its ranges while the duty is 0 (R67, R68). -/
theorem keeps_loadDamper (i : Fin 6) {e : DamperEntry} (he : damperEntryInRange e = true) (hzero : s.bd.applied = 0) :
    Keeps replies s { s with dp := ⟨s.dp.dampers.set i (loadDamper s.mc.mode e (s.dp.dampers.get i))⟩ } := by
  obtain ⟨hlaw, hshare, hcov, hentry⟩ := loadDamper_law s.mc.mode (s.dp.dampers.get i) he
  exact { Keeps.refl replies s with
    dampers := fun hd => by
      unfold dampersInvariant at hd ⊢
      rw [six_all_iff] at hd ⊢
      exact Six.forall_set (p := fun d => damperInvariant d = true) i hlaw hd
    allowance := fun ha => by
      rw [allowanceInvariant_iff] at ha ⊢
      obtain ⟨h1, h2, h3, -⟩ := ha
      have h5 : AllowanceShares (s.dp.dampers.set i (loadDamper s.mc.mode e (s.dp.dampers.get i))) :=
        Six.forall_set (p := fun d => damperInvariant d = true ∧ AllowanceShare d) i ⟨hlaw, hshare⟩ h1
      refine ⟨h5, h2, h3, ?_⟩
      have := h5.covered_le
      dsimp only
      omega
    tables := fun ht => by
      rw [tablesInRange_iff] at ht ⊢
      exact { ht with
        dampers := Six.forall_set (p := fun d : Damper => damperEntryInRange d.entry = true) i (by rw [hentry]; exact he) ht.dampers } }

theorem keeps_sequencer {ds : Sequencer}
    (h : SequencerLaw s.mc.mode s.mc.settings.coilMinimum s.ds → SequencerLaw s.mc.mode s.mc.settings.coilMinimum ds)
    (hoff : OffKept s.ds ds) : Keeps replies s { s with ds := ds } :=
  { Keeps.refl replies s with
    sequencer := h
    off := hoff.afresh }

/-- Mode Control changes its mode to one other than Service, or not at all; its settings stay. -/
theorem keeps_modeControl {mc : ModeControl} (hset : mc.settings = s.mc.settings)
    (hmode : mc.mode = .service → s.mc.mode = .service) : Keeps replies s { s with mc := mc } :=
  { Keeps.refl replies s with
    allowance := fun ha => by
      rw [allowanceInvariant_iff] at ha ⊢
      rw [hset]
      exact ha
    sequencer := fun h => by
      rw [hset]
      exact { h with heldMode := fun hm => h.heldMode (hmode hm) }
    tables := fun ht => by
      rw [tablesInRange_iff] at ht ⊢
      exact { ht with settings := by rw [hset]; exact ht.settings } }

/-- Mode Control and the sequencer change together, the settings staying (R149). -/
theorem keeps_modeSequencer {mc : ModeControl} {ds : Sequencer} (hset : mc.settings = s.mc.settings)
    (h : SequencerLaw s.mc.mode s.mc.settings.coilMinimum s.ds → SequencerLaw mc.mode s.mc.settings.coilMinimum ds)
    (hoff : OffKept s.ds ds) : Keeps replies s { s with mc := mc, ds := ds } :=
  { Keeps.refl replies s with
    allowance := fun ha => by
      rw [allowanceInvariant_iff] at ha ⊢
      rw [hset]
      exact ha
    sequencer := fun hl => by
      rw [hset]
      exact h hl
    off := hoff.afresh
    tables := fun ht => by
      rw [tablesInRange_iff] at ht ⊢
      exact { ht with settings := by rw [hset]; exact ht.settings } }

/-- The unit settings are replaced and the sequencer checks its coil minimum, while the applied duty is 0 (R125, R156). -/
theorem keeps_settings {new : Settings} {ds : Sequencer} (hnew : settingsInRange new = true) (hzero : s.bd.applied = 0)
    (h : SequencerLaw s.mc.mode s.mc.settings.coilMinimum s.ds → SequencerLaw s.mc.mode new.coilMinimum ds)
    (hoff : OffKept s.ds ds) : Keeps replies s { s with mc := { s.mc with settings := new }, ds := ds } :=
  { Keeps.refl replies s with
    allowance := fun ha => by
      rw [allowanceInvariant_iff] at ha ⊢
      obtain ⟨h1, h2, h3, -⟩ := ha
      refine ⟨h1, h2, h3, ?_⟩
      have := h1.covered_le
      dsimp only
      omega
    sequencer := h
    off := hoff.afresh
    tables := fun ht => by
      rw [tablesInRange_iff] at ht ⊢
      exact { ht with settings := hnew } }

/-- The dose unit and the filter stages change together: the bounds of the accounts and the tables are kept. -/
theorem keeps_filters {du : Dose} {fs : Filters}
    (haccounts : AccountBounded s.fs.pre → AccountBounded s.fs.fine → AccountBounded fs.pre ∧ AccountBounded fs.fine)
    (hcurve : curveInRange s.du.curve = true → curveInRange du.curve = true) (hfactory : du.factoryCurve = s.du.factoryCurve)
    (hclasses : s.fs.classes.toList.all classInRange = true → fs.classes.toList.all classInRange = true)
    (hfactoryClasses : fs.factoryClasses = s.fs.factoryClasses) : Keeps replies s { s with du := du, fs := fs } :=
  { Keeps.refl replies s with
    tables := fun ht => by
      rw [tablesInRange_iff] at ht ⊢
      exact { ht with
        curve := hcurve ht.curve
        factoryCurve := by rw [hfactory]; exact ht.factoryCurve
        classes := hclasses ht.classes
        factoryClasses := by rw [hfactoryClasses]; exact ht.factoryClasses }
    accounts := fun h => by
      rw [filtersInvariant_iff] at h ⊢
      exact haccounts h.1 h.2 }

end Blocks

end Sys2Proof.Machine

/-! The chain of deliveries keeps the laws. A mode change and a load of the settings are delivered only right after Mode Control
has made them; every other delivery is calm, and what it sets off is calm or the wake from Standby. -/
namespace Sys2Proof.Machine

/-! ### Calm deliveries -/

/-- A delivery that may stand anywhere in a chain: no mode change, no load of the settings, and a checkpoint of a service
slot alone. -/
def Calm : Signal → Prop
  | .checkpoint item => ItemFits item ∧ isPanelItem item = false
  | .modeChange _ _ _ => False
  | .settingsLoaded _ => False
  | _ => True

/-- All deliveries of a list are calm. -/
def AllCalm : List Signal → Prop
  | [] => True
  | x :: rest => Calm x ∧ AllCalm rest

@[simp] theorem allCalm_nil : AllCalm [] := trivial

@[simp] theorem allCalm_cons (x : Signal) (rest : List Signal) : AllCalm (x :: rest) ↔ Calm x ∧ AllCalm rest := Iff.rfl

theorem allCalm_iff (signals : List Signal) : AllCalm signals ↔ ∀ x ∈ signals, Calm x := by
  induction signals with
  | nil => simp
  | cons x rest ih => simp [ih]

@[simp] theorem allCalm_append (a b : List Signal) : AllCalm (a ++ b) ↔ AllCalm a ∧ AllCalm b := by
  simp only [allCalm_iff, List.mem_append]
  exact ⟨fun h => ⟨fun x hx => h x (.inl hx), fun x hx => h x (.inr hx)⟩,
    fun ⟨h1, h2⟩ x hx => hx.elim (h1 x) (h2 x)⟩

theorem allCalm_flatMap {α : Type} (l : List α) (f : α → List Signal) (h : ∀ a, AllCalm (f a)) : AllCalm (l.flatMap f) := by
  rw [allCalm_iff]
  intro x hx
  obtain ⟨a, -, ha⟩ := List.mem_flatMap.mp hx
  exact (allCalm_iff _).mp (h a) x ha

theorem calm_runHours (seconds : Nat) : Calm (.checkpoint (runHourItem seconds)) := runHourItem_fits seconds

theorem calm_stage (fine : Bool) (r : StageRecord) : Calm (.checkpoint (stageItem fine r)) := stageItem_fits fine r

/-! ### What the blocks deliver is calm -/

theorem appliedDelivery_calm (before now : Nat) : AllCalm (appliedDelivery before now) := by
  unfold appliedDelivery
  split <;> simp [Calm]

theorem blowerTick_calm (mc : ModeControl) (v : Six Damper) (bd : Blower) : AllCalm (blowerTick mc v bd).2 := by
  unfold blowerTick
  dsimp only
  rw [allCalm_append]
  refine ⟨appliedDelivery_calm .., ?_⟩
  split <;> simp [Calm]

theorem stallExpiry_calm (bd : Blower) : AllCalm (stallExpiry bd).2 := by
  unfold stallExpiry
  split
  · simp
  · dsimp only
    split <;> simp [appliedDelivery_calm, Calm]

theorem blowerMode_calm (new : UnitMode) (bd : Blower) : AllCalm (blowerMode new bd).2 := by
  unfold blowerMode
  dsimp only
  split <;> simp [calm_runHours]

theorem blowerOffRequested_calm (bd : Blower) : AllCalm (blowerOffRequested bd).2 := by
  unfold blowerOffRequested
  split <;> simp [Calm]

theorem runSecond_calm (bd : Blower) : AllCalm (runSecond bd).2 := by
  unfold runSecond
  split
  · dsimp only
    split <;> simp [calm_runHours]
  · simp

theorem moveStep_calm (i : Fin 6) (home : Bool) (d : Damper) : AllCalm (moveStep i home d).2 := by
  by_cases hm : d.state = .moving ∧ d.seeking = false
  · rw [moveStep_moving i home hm.1 hm.2]
    split_ifs <;> simp [damperNotice, Calm]
  · rw [moveStep_other i home hm]
    simp

theorem homingStep_calm (i : Fin 6) (home : Bool) (d : Damper) : AllCalm (homingStep i home d).2 := by
  unfold homingStep
  dsimp only
  split_ifs <;> simp [damperNotice, Calm]

theorem seekStep_calm (i : Fin 6) (home : Bool) (d : Damper) : AllCalm (seekStep i home d).2 := by
  unfold seekStep
  dsimp only
  split_ifs <;> simp [damperNotice, Calm]

section Sequencer
variable (coilMinimum : Nat) (ds : Sequencer)

theorem evaluateIdle_calm : AllCalm (evaluateIdle coilMinimum ds).2 := by
  unfold evaluateIdle enterAirflowWait
  split_ifs <;> simp [Calm]

theorem goIdle_calm : AllCalm (goIdle coilMinimum ds).2 := by
  unfold goIdle
  dsimp only
  rw [allCalm_append]
  exact ⟨by split <;> simp [Calm], evaluateIdle_calm ..⟩

theorem goTankHold_calm : AllCalm (goTankHold ds).2 := by
  unfold goTankHold
  dsimp only
  split <;> simp [Calm]

theorem stopRunning_calm (cause : CompressorFinish) : AllCalm (stopRunning coilMinimum cause ds).2 := by
  unfold stopRunning
  dsimp only
  split
  · exact goTankHold_calm _
  · exact goIdle_calm ..

theorem endDefrost_calm : AllCalm (endDefrost coilMinimum ds).2 := by
  unfold endDefrost
  dsimp only
  split
  · exact goTankHold_calm _
  · exact goIdle_calm ..

theorem deliverService_calm (ev : DsEvent) : AllCalm (deliverService coilMinimum ev ds).2 := by
  unfold deliverService
  split
  · split
    · exact goTankHold_calm _
    · simp
  · split
    · exact evaluateIdle_calm ..
    · simp
  · split
    · simp
    · exact evaluateIdle_calm ..
  · simp
  · simp

theorem deliverRunning_calm (ev : DsEvent) : AllCalm (deliverRunning coilMinimum ev ds).2 := by
  unfold deliverRunning
  split
  · exact stopRunning_calm ..
  · split
    · split
      · exact stopRunning_calm ..
      · simp
    · simp
    · simp
    · simp

theorem deliverDefrost_calm (ev : DsEvent) : AllCalm (deliverDefrost coilMinimum ev ds).2 := by
  have hstop : AllCalm (goIdle coilMinimum { ds with defrostLeft := none }).2 := goIdle_calm ..
  unfold deliverDefrost
  dsimp only
  split
  · split
    · simp
    · exact hstop
  · exact hstop
  · exact hstop
  · split
    · exact hstop
    · simp
  · split
    · exact hstop
    · split
      · exact endDefrost_calm ..
      · simp
  · simp

theorem dsDeliver_calm (ev : DsEvent) : AllCalm (dsDeliver coilMinimum ev ds).2 := by
  unfold dsDeliver
  split
  · split
    · exact deliverService_calm ..
    · exact evaluateIdle_calm ..
  · split
    · simp
    · exact goIdle_calm ..
  · split
    · split <;> simp
    · exact goIdle_calm ..
  · exact deliverRunning_calm ..
  · exact deliverDefrost_calm ..
  · split
    · exact goIdle_calm ..
    · simp
  · simp

theorem offExpiry_calm : AllCalm (offExpiry coilMinimum ds).2 := by
  unfold offExpiry enterAirflowWait
  split
  · simp
  · dsimp only
    split
    · simp [Calm]
    · split
      · simp
      · exact evaluateIdle_calm ..
    · simp

theorem onExpiry_calm : AllCalm (onExpiry coilMinimum ds).2 := by
  unfold onExpiry
  split
  · simp
  · dsimp only
    split
    · exact stopRunning_calm ..
    · simp

theorem waitExpiry_calm : AllCalm (waitExpiry coilMinimum ds).2 := by
  unfold waitExpiry
  split
  · simp
  · split
    · exact goIdle_calm ..
    · simp

theorem graceExpiry_calm : AllCalm (graceExpiry coilMinimum ds).2 := by
  unfold graceExpiry
  split
  · simp
  · split
    · exact stopRunning_calm ..
    · split <;> simp

theorem frostExpiry_calm : AllCalm (frostExpiry ds).2 := by
  unfold frostExpiry
  split
  · simp
  · split <;> simp [Calm]

theorem defrostExpiry_calm : AllCalm (defrostExpiry coilMinimum ds).2 := by
  unfold defrostExpiry
  split
  · simp
  · dsimp only
    split
    · split
      · simp [Calm]
      · exact endDefrost_calm ..
    · simp

theorem clearLockout_calm : AllCalm (clearLockout coilMinimum ds).2 := by
  unfold clearLockout
  split
  · exact goIdle_calm ..
  · simp

end Sequencer

section Water
variable (fitted : Bool) (mode : UnitMode) (tm : Tank)

theorem settleLevel_calm : AllCalm (settleLevel fitted mode tm).2 := by
  unfold settleLevel blockReport
  dsimp only
  split
  · simp
  · rw [allCalm_append]
    refine ⟨by unfold levelNotice; split <;> simp [Calm], ?_⟩
    split_ifs <;> simp [Calm]

theorem stabilityExpiry_calm (sw : TankSwitch) : AllCalm (stabilityExpiry fitted mode sw tm).2 := by
  unfold stabilityExpiry
  dsimp only
  split
  · simp
  · split
    · simp
    · exact settleLevel_calm ..

theorem rearmExpiry_calm : AllCalm (rearmExpiry tm).2 := by
  unfold rearmExpiry
  split
  · simp
  · dsimp only
    split <;> simp [Calm]

theorem maxRunExpiry_calm : AllCalm (maxRunExpiry tm).2 := by
  unfold maxRunExpiry
  split
  · simp
  · split
    · simp
    · dsimp only
      split <;> simp [Calm]

end Water

section Stages
variable (fs : Filters)

theorem decideCheckpoint_calm (fine moved : Bool) (r : StageRecord) : AllCalm (decideCheckpoint fine moved r).2 := by
  unfold decideCheckpoint checkpointStage
  split <;> simp [calm_stage]

theorem detectMissing_calm (cls : FilterClass) (s : Nat) (dp : Option Nat) (r : StageRecord) :
    AllCalm (detectMissing cls s dp r).2 := by
  rw [detectMissing_deliveries]
  split <;> simp [Calm]

theorem deriveState_calm (fine : Bool) (cls : FilterClass) (r : StageRecord) : AllCalm (deriveState fine cls r).2.1 := by
  rw [allCalm_iff]
  intro x hx
  obtain ⟨kind, subject, rfl⟩ := deriveState_notices fine cls r x hx
  trivial

theorem clearingDelivery_calm (before after : StageRecord) : AllCalm (clearingDelivery before after) := by
  unfold clearingDelivery
  split <;> simp [Calm]

theorem stageReading_calm (mode : UnitMode) (speed : Nat) (stamp : Word) (fields : Reading) (du : Dose) :
    AllCalm (stageReading mode speed stamp fields du fs).2.2 := by
  unfold stageReading
  simp only [allCalm_append, detectMissing_calm, deriveState_calm, clearingDelivery_calm, decideCheckpoint_calm, and_self]

theorem filtersMode_calm (new : UnitMode) : AllCalm (filtersMode new fs).2 := by
  unfold filtersMode checkpointStage
  split
  · dsimp only
    split <;> split <;> simp [calm_stage]
  · simp

theorem replaceFilter_calm (fine : Bool) (number : Fin 4) (stamp : Word) :
    AllCalm (replaceFilter fine number stamp fs).2 := by
  unfold replaceFilter checkpointStage
  dsimp only
  split
  · rw [allCalm_append]
    exact ⟨by simp [calm_stage], by split <;> simp [Calm]⟩
  · simp [calm_stage]

theorem restoreStage_calm (fine : Bool) (classes : Quad FilterClass) (cells : List Host.Cell) :
    AllCalm (restoreStage fine classes cells).2 := by
  unfold restoreStage
  dsimp only
  split
  · split
    · split
      · dsimp only
        split <;> simp [Calm]
      · simp [Calm]
    · simp [Calm]
  · simp [Calm]

end Stages

section Line
variable (settings : Settings) (iu : Intake)

theorem settleLiveness_calm (unitNode address : Nat) (o : PeriodOutcome) :
    AllCalm (settleLiveness unitNode address o iu).2 := by
  unfold settleLiveness
  split
  · simp
  · split
    · dsimp only
      split <;> simp [Calm]
    · dsimp only
      split_ifs <;> simp [Calm]

theorem settlePolarity_calm (setting : PolaritySetting) (heard : Bool) (o : PeriodOutcome) :
    AllCalm (settlePolarity setting heard o iu).2 := by
  unfold settlePolarity
  split
  · split
    · simp
    · simp
    · split_ifs <;> simp [Calm]
  · simp

theorem closePeriod_calm (k : Nat) (heard : Bool) (o : PeriodOutcome) : AllCalm (closePeriod settings k heard o iu).2 := by
  unfold closePeriod
  rw [allCalm_append]
  exact ⟨settleLiveness_calm .., settlePolarity_calm ..⟩

theorem zoneOctet_calm (raw : Byte) : AllCalm (zoneOctet settings raw iu).2 := by
  unfold zoneOctet
  dsimp only
  split
  · split
    · split <;> simp
    · split
      · exact closePeriod_calm ..
      · simp
  · simp

theorem windowExpiry_calm : AllCalm (windowExpiry settings iu).2 := by
  unfold windowExpiry
  split
  · split
    · exact closePeriod_calm ..
    · simp
    · simp
  · simp

theorem frameExpiry_calm : AllCalm (frameExpiry settings iu).2 := by
  unfold frameExpiry
  split
  · split
    · exact closePeriod_calm ..
    · simp
  · simp

theorem unitAddressLoaded_calm (before new : Nat) : AllCalm (unitAddressLoaded before new iu) := by
  unfold unitAddressLoaded
  split_ifs <;> simp [Calm]

theorem loadPollList_calm (interval : Option Nat) (unitNode : Nat) (entries : List PollEntry) :
    AllCalm (loadPollList interval unitNode entries iu).2 := by
  unfold loadPollList
  dsimp only
  rw [allCalm_append]
  refine ⟨allCalm_flatMap _ _ fun a => ?_, allCalm_flatMap _ _ fun a => ?_⟩ <;> split <;> simp [Calm]

theorem injectReading_calm (address : Nat) (fields : Reading) : AllCalm (injectReading address fields iu).2 := by
  unfold injectReading
  split
  · simp
  · dsimp only
    split <;> simp [Calm]

end Line

theorem updateDeliveries_calm (mode : UnitMode) (before dmu : Demand) : AllCalm (updateDeliveries mode before dmu) := by
  have htargets : AllCalm (targetDeliveries mode dmu.zones) := by
    unfold targetDeliveries
    split
    · refine allCalm_flatMap _ _ fun i => ?_
      split <;> simp [Calm]
    · simp
  unfold updateDeliveries
  simp only [allCalm_append, htargets, and_true]
  refine ⟨⟨by simp [Calm], by simp [Calm]⟩, ?_⟩
  split <;> simp [Calm]

/-! ### One delivery -/

section Route
variable {replies : Nat} {s : State}

/-- A delivery to the sequencer, its input changed to `ds` (R118). -/
theorem toSequencer_keeps {ev : DsEvent} {ds : Sequencer}
    (h : SequencerLaw s.mc.mode s.mc.settings.coilMinimum s.ds → Delivered ev s.mc.mode s.mc.settings.coilMinimum ds)
    (hoff : OffKept s.ds ds) :
    Keeps replies s (toSequencer ev ds s).1 ∧ AllCalm (toSequencer ev ds s).2 := by
  refine ⟨keeps_sequencer (fun hl => dsDeliver_law (h hl)) ?_, dsDeliver_calm ..⟩
  rcases dsDeliver_off s.mc.settings.coilMinimum ds ev with ⟨hc, ho⟩ | ha
  · rcases hoff with ⟨hc', ho'⟩ | ha
    · exact .inl ⟨hc.trans hc', ho.trans ho'⟩
    · exact .inr (OffKept.afresh (.inl ⟨hc, ho⟩) ha)
  · exact .inr ha

/-- What a step leaves of the law when the input of `ev` alone changes. -/
theorem SequencerLaw.delivered {mode : UnitMode} {coilMinimum : Nat} {ds : Sequencer} (ev : DsEvent)
    (h : SequencerLaw mode coilMinimum ds) : Delivered ev mode coilMinimum ds :=
  ⟨fun _ => h.tank, h.off, fun _ => h.airflow, h.output, h.service, h.wait, fun _ => h.hold, h.grace, h.heldMode,
    fun _ => h.serviceMode⟩

/-- A checkpoint of a service slot is handed to the store. -/
theorem handItem_keeps {item : StoreItem} (h : ItemFits item ∧ isPanelItem item = false) :
    Keeps replies s { s with nvs := handItem item s.nvs } :=
  keeps_store (handItem_law ⟨h.1, fun hp => by rw [h.2] at hp; cases hp⟩)

/-- Both counts and the previous stamp of the filter stages and the dose unit: no law is about them (R95, R110). -/
theorem clearUnit_keeps : Keeps replies s { s with du := clearStamp s.du, fs := clearCounts s.fs } :=
  keeps_filters (fun h1 h2 => ⟨h1, h2⟩) id rfl id rfl

theorem routeUnitReading_keeps (stamp : Word) (fields : Reading) :
    Keeps replies s (routeUnitReading stamp fields s).1 ∧ AllCalm (routeUnitReading stamp fields s).2 := by
  obtain ⟨hcurve, hfactory, hclasses, hfactoryClasses⟩ :=
    stageReading_tables s.mc.mode s.bd.speed s.fs stamp fields s.du
  have hfilters : Keeps replies s { s with
      du := (stageReading s.mc.mode s.bd.speed stamp fields s.du s.fs).1
      fs := (stageReading s.mc.mode s.bd.speed stamp fields s.du s.fs).2.1 } :=
    keeps_filters (stageReading_bounded _ _ _ _ _ _) (by rw [hcurve]; exact id) hfactory (by rw [hclasses]; exact id) hfactoryClasses
  obtain ⟨hkeep, hcalm⟩ := toSequencer_keeps (replies := replies)
    (s := { s with
      du := (stageReading s.mc.mode s.bd.speed stamp fields s.du s.fs).1
      fs := (stageReading s.mc.mode s.bd.speed stamp fields s.du s.fs).2.1 })
    (ev := .unitReading) (ds := { s.ds with coil := fields.coil, nodeLost := false })
    (fun h => { h.delivered .unitReading with }) (.inl ⟨rfl, rfl⟩)
  exact ⟨hfilters.trans hkeep, (allCalm_append ..).mpr ⟨stageReading_calm .., hcalm⟩⟩

theorem routeUnitState_keeps (state : NodeState) :
    Keeps replies s (routeUnitState state s).1 ∧ AllCalm (routeUnitState state s).2 := by
  unfold routeUnitState
  split
  · obtain ⟨hkeep, hcalm⟩ := toSequencer_keeps (replies := replies)
      (s := { s with du := clearStamp s.du, fs := clearCounts s.fs })
      (ev := .unitLost) (ds := { s.ds with coil := none, nodeLost := true })
      (fun h => { h.delivered .unitLost with }) (.inl ⟨rfl, rfl⟩)
    exact ⟨clearUnit_keeps.trans hkeep, hcalm⟩
  · exact toSequencer_keeps (fun h => { h.delivered .unitOther with }) (.inl ⟨rfl, rfl⟩)

theorem routeLineReset_keeps :
    Keeps replies s (routeLineReset s).1 ∧ AllCalm (routeLineReset s).2 := by
  have hzones : Keeps replies s { s with dmu := { s.dmu with zones := s.dmu.zones.map zoneLineReset } } :=
    keeps_entries (entriesKept_map zoneLineReset_entry)
  obtain ⟨hkeep, hcalm⟩ := toSequencer_keeps (replies := replies)
    (s := { s with
      dmu := { s.dmu with zones := s.dmu.zones.map zoneLineReset }, du := clearStamp s.du, fs := clearCounts s.fs })
    (ev := .lineReset) (ds := { s.ds with coil := none, nodeLost := false })
    (fun h => { h.delivered .lineReset with }) (.inl ⟨rfl, rfl⟩)
  exact ⟨(hzones.trans clearUnit_keeps).trans hkeep, (allCalm_append ..).mpr ⟨hcalm, by simp [Calm]⟩⟩

/-- A mode change that Mode Control has just made, at every block (R149). -/
theorem routeMode_keeps (old : UnitMode) (oldSource : ServiceSource) {mc : ModeControl}
    (hset : mc.settings = s.mc.settings) :
    Keeps replies s (route (.modeChange old mc.mode oldSource) { s with mc := mc }).1
      ∧ AllCalm (route (.modeChange old mc.mode oldSource) { s with mc := mc }).2 := by
  obtain ⟨hpre, hfine, hclasses, hfactory⟩ := filtersMode_kept mc.mode s.fs
  have hline : Keeps replies s
      { s with iu := retime (cycleInterval old oldSource) (cycleInterval mc.mode mc.source) s.iu } :=
    keeps_line_of_down (by simp)
  have hwork := (hline.trans (keeps_blower (blowerMode_kept mc.mode s.bd))).trans
    (keeps_dampers (DampersKept.map s.dp.dampers (damperMode_kept old mc.mode)))
  have hstages := (hwork.trans (keeps_filters (du := s.du) (fun h1 h2 => ⟨hpre.bounded h1, hfine.bounded h2⟩) id rfl
    (by rw [hclasses]; exact id) hfactory)).trans
    (keeps_tank (pumpMode_law mc.settings.pumpFitted old mc.mode))
  have hboth := hstages.trans (keeps_modeSequencer (mc := mc)
    (ds := (dsDeliver mc.settings.coilMinimum .mode { s.ds with mode := mc.mode }).1) hset (fun h => ?_) ?_)
  · refine ⟨hboth, ?_⟩
    simp only [route, routeMode, toSequencer, allCalm_append]
    exact ⟨⟨⟨blowerMode_calm .., filtersMode_calm ..⟩, dsDeliver_calm ..⟩, by simp [Calm]⟩
  · dsimp only at h ⊢
    rw [hset]
    exact dsDeliver_law { h.delivered .mode with heldMode := id, serviceMode := fun hne => absurd rfl hne }
  · exact (dsDeliver_off mc.settings.coilMinimum { s.ds with mode := mc.mode } .mode)

/-- A load of the unit settings that Mode Control has just made, at the blocks that read them (R157). -/
theorem routeSettings_keeps {new : Settings} (hnew : settingsInRange new = true) (hzero : s.bd.applied = 0) :
    Keeps replies s (route (.settingsLoaded s.mc.settings) { s with mc := { s.mc with settings := new } }).1
      ∧ AllCalm (route (.settingsLoaded s.mc.settings) { s with mc := { s.mc with settings := new } }).2 := by
  have hline : Keeps replies s { s with iu := polarityLoaded s.mc.settings.polarity new.polarity s.iu } :=
    keeps_line_of_down (by simp)
  have hblower := hline.trans (keeps_blower (edgesLoaded_kept s.mc.settings.edges new.edges s.bd))
  have htank := hblower.trans (keeps_tank (fittedLoaded_law s.mc.mode s.mc.settings.pumpFitted new.pumpFitted))
  have hzones := htank.trans (keeps_entries (dmu := if s.mc.settings.holdTime = new.holdTime then s.dmu
    else { s.dmu with zones := s.dmu.zones.map (zoneRetime new.holdTime s.iu.timeBase) }) ?_)
  · refine ⟨hzones.trans (keeps_settings hnew ?_ coilMinimumLoaded_law (coilMinimumLoaded_off ..)), ?_⟩
    · have := (edgesLoaded_kept s.mc.settings.edges new.edges s.bd).applied
      dsimp only
      omega
    · simp only [route, routeSettings, allCalm_append]
      exact ⟨unitAddressLoaded_calm .., by simp [Calm]⟩
  · split
    · exact fun _ => rfl
    · exact entriesKept_map (zoneRetime_entry _ _)

/-- A delivery of a chain, with what stands behind it: calm, or the mode change that Mode Control has just made. -/
def Ready (signals : List Signal) (s : State) : Prop :=
  AllCalm signals
    ∨ ∃ old source rest, signals = .modeChange old s.mc.mode source :: rest ∧ AllCalm rest

/-- A delivery of the largest demand wakes the unit or changes nothing but the demand held (R152). -/
theorem routeLargest_keeps (d : Nat) (rest : List Signal) (hrest : AllCalm rest) :
    Keeps replies s (routeLargest d s).1 ∧ Ready ((routeLargest d s).2 ++ rest) (routeLargest d s).1 := by
  unfold routeLargest
  split
  · refine ⟨keeps_modeControl rfl (by simp), .inr ⟨.standby, s.mc.source, .notice .modeChanged none :: rest, rfl, ?_⟩⟩
    simpa [Calm] using hrest
  · exact ⟨keeps_modeControl rfl id, .inl (by simpa using hrest)⟩

/-- Every calm delivery keeps the laws and sets off what may stand at the front of a chain. -/
theorem route_keeps (sig : Signal) (rest : List Signal) (hsig : Calm sig) (hrest : AllCalm rest) :
    Keeps replies s (route sig s).1 ∧ Ready ((route sig s).2 ++ rest) (route sig s).1 := by
  have ready : ∀ {signals : List Signal} {t : State}, AllCalm signals → Ready (signals ++ rest) t :=
    fun h => .inl ((allCalm_append ..).mpr ⟨h, hrest⟩)
  cases sig with
  | notice kind subject => exact ⟨keeps_panel (post_within kind subject), ready allCalm_nil⟩
  | relay payload => exact ⟨keeps_panel (placeRelay_within payload), ready allCalm_nil⟩
  | checkpoint item => exact ⟨handItem_keeps hsig, ready allCalm_nil⟩
  | reading address stamp sequence fields =>
    refine ⟨keeps_entries (entriesKept_map (zoneReading_entry _ _ _)), ready ?_⟩
    simp only [route, routeReading]
    split_ifs <;> simp [Calm]
  | nodeState address state =>
    refine ⟨keeps_entries (entriesKept_map (zoneNodeState_entry _ _ _ _)), ready ?_⟩
    simp only [route, routeNodeState]
    split <;> simp [Calm]
  | unitReading stamp fields =>
    obtain ⟨hk, hc⟩ := routeUnitReading_keeps (replies := replies) (s := s) stamp fields
    exact ⟨hk, ready hc⟩
  | unitState state =>
    obtain ⟨hk, hc⟩ := routeUnitState_keeps (replies := replies) (s := s) state
    exact ⟨hk, ready hc⟩
  | lineReset =>
    obtain ⟨hk, hc⟩ := routeLineReset_keeps (replies := replies) (s := s)
    exact ⟨hk, ready hc⟩
  | demandUpdate => exact ⟨keeps_entries (recompute_entries _ _ _), ready (updateDeliveries_calm ..)⟩
  | demandedDuty duty => exact ⟨keeps_blower (stageDemand_kept ..), ready allCalm_nil⟩
  | damperTarget i target => exact ⟨keeps_dampers (DampersKept.set _ i (takeTarget_kept ..)), ready allCalm_nil⟩
  | dryingCall on =>
    obtain ⟨hk, hc⟩ := toSequencer_keeps (replies := replies) (s := s) (ev := .call) (ds := { s.ds with call := on })
      (fun h => { h.delivered .call with }) (.inl ⟨rfl, rfl⟩)
    exact ⟨hk, ready hc⟩
  | largestDemand d => exact routeLargest_keeps d rest hrest
  | modeChange old new oldSource => exact absurd hsig id
  | sourceChange old new => exact ⟨keeps_line_of_down (by simp), ready allCalm_nil⟩
  | setModeOff => exact ⟨keeps_blower (blowerOffRequested_kept _), ready (blowerOffRequested_calm _)⟩
  | settingsLoaded before => exact absurd hsig id
  | appliedDuty duty =>
    obtain ⟨hk, hc⟩ := toSequencer_keeps (replies := replies) (s := s) (ev := .applied) (ds := { s.ds with applied := duty })
      (fun h => { h.delivered .applied with airflow := fun hne => absurd rfl hne }) (.inl ⟨rfl, rfl⟩)
    exact ⟨hk, ready hc⟩
  | blowerFaulted faulted =>
    obtain ⟨hk, hc⟩ := toSequencer_keeps (replies := replies) (s := s) (ev := .fault) (ds := { s.ds with faulted := faulted })
      (fun h => { h.delivered .fault with }) (.inl ⟨rfl, rfl⟩)
    exact ⟨hk, ready hc⟩
  | limitMet applied reductions => exact ⟨keeps_dampers (DampersKept.map _ releaseShare_kept), ready allCalm_nil⟩
  | dryingActive on => exact ⟨keeps_entries fun _ => rfl, ready (by simp [route, Calm])⟩
  | tankReport blocked =>
    obtain ⟨hk, hc⟩ := toSequencer_keeps (replies := replies) (s := s) (ev := .tank)
      (ds := { s.ds with tankBlocked := blocked })
      (fun h => { h.delivered .tank with tank := fun hne => absurd rfl hne, hold := fun hne => absurd rfl hne })
      (.inl ⟨rfl, rfl⟩)
    exact ⟨hk, ready hc⟩
  | filterMissing missing => exact ⟨keeps_entries fun _ => rfl, ready (by simp [route, Calm])⟩

/-- A chain that is ready keeps the laws, however many of its deliveries are handled. -/
theorem settleChain_keeps_laws (n : Nat) (signals : List Signal) (s : State) (h : Ready signals s) :
    Keeps replies s (settleChain n signals s) := by
  induction n generalizing signals s with
  | zero => exact Keeps.refl _ _
  | succ n ih =>
    match signals with
    | [] => exact Keeps.refl _ _
    | sig :: rest =>
      rw [settleChain_cons]
      rcases h with hcalm | ⟨old, source, rest', heq, hrest⟩
      · obtain ⟨hsig, hrest⟩ := (allCalm_cons ..).mp hcalm
        obtain ⟨hk, hr⟩ := route_keeps (replies := replies) (s := s) sig rest hsig hrest
        exact hk.trans (ih _ _ hr)
      · obtain ⟨rfl, rfl⟩ := List.cons.inj heq
        obtain ⟨hk, hc⟩ := routeMode_keeps (replies := replies) (s := s) old source (mc := s.mc) rfl
        exact Keeps.trans hk (ih _ _ (.inl ((allCalm_append ..).mpr ⟨hc, hrest⟩)))

theorem settle_keeps_laws {signals : List Signal} (h : AllCalm signals) : Keeps replies s (settle signals s) :=
  settleChain_keeps_laws _ signals s (.inl h)

/-- The first delivery of `settle` is handled before all that stands behind it. -/
theorem settle_cons (sig : Signal) (rest : List Signal) (s : State) :
    settle (sig :: rest) s = settleChain 3999 ((route sig s).2 ++ rest) (route sig s).1 := rfl

end Route

end Sys2Proof.Machine

/-! Every request, event and reset keeps the laws: the walk through the commands, each by the change of state it makes. -/
namespace Sys2Proof.Machine

/-! ### Fields that pass their checks -/

theorem settingsOf_inRange {f : List Byte} {n : Settings} (h : settingsOf f = some n) : settingsInRange n = true := by
  unfold settingsOf at h
  split at h
  · dsimp only at h
    split at h
    next hin =>
      obtain rfl := Option.some.inj h
      obtain ⟨h1, h2, h3, h4, h5, h6, h7, h8, h9, h10, h11, h12, h13, h14, h15, h16, h17, h18, h19, h20, h21, h22⟩ := hin
      simp only [settingsInRange, Bool.and_eq_true, Bool.or_eq_true, decide_eq_true_eq, beq_iff_eq, and_assoc, or_assoc]
      exact ⟨h1, h2, h3, h4, h5, h6, h7, h8, h9, h10, h11, h12, h13, h16, h17, h15, h18, h19, h20, h21, h22⟩
    · cases h
  · cases h

theorem damperEntryOf_inRange {f : List Byte} {e : DamperEntry} (h : damperEntryOf f = some e) :
    damperEntryInRange e = true := by
  unfold damperEntryOf at h
  split at h
  · split at h
    next hin =>
      obtain rfl := Option.some.inj h
      simp only [damperEntryInRange, Bool.and_eq_true, decide_eq_true_eq]
      tauto
    · cases h
  · cases h

theorem zoneEntryOf_fieldsInRange {f : List Byte} {e : ZoneEntry} (h : zoneEntryOf f = some e)
    (hnode : e.node ≤ 30) : zoneEntryInRange e = true := by
  unfold zoneEntryOf at h
  split at h
  · split at h
    next hin =>
      obtain rfl := Option.some.inj h
      have := (byteAt 5 f).isLt
      simp only [zoneEntryInRange, Bool.and_eq_true, decide_eq_true_eq]
      dsimp only at hnode
      omega
    · cases h
  · cases h

theorem clampNat_bounds {a b x : Nat} (h : a ≤ b) : a ≤ clampNat a b x ∧ clampNat a b x ≤ b := by
  unfold clampNat
  omega

/-! ### The owners of the requests -/

section Owners
variable {replies : Nat} {s : State}

/-- Placing a zone whose entry lies in its ranges keeps the zone table in its ranges. -/
theorem keeps_zoneSet (i : Fin 6) {z : Zone}
    (h : zoneEntryInRange (s.dmu.zones.get i).entry = true → zoneEntryInRange z.entry = true) :
    Keeps replies s { s with dmu := { s.dmu with zones := s.dmu.zones.set i z } } := by
  refine keeps_zones fun j hj => ?_
  rw [Six.get_set]
  split
  next he => subst he; exact h hj
  next => exact hj

theorem changeMode_keeps (new : UnitMode) (source : ServiceSource) : Keeps replies s (changeMode new source s) := by
  unfold changeMode
  dsimp only
  rw [List.cons_append, List.nil_append, settle_cons]
  generalize hrec : (if new = .service ∨ s.mc.mode = .service then (⟨none, none, none⟩ : ServiceRecord) else s.mc.record) = record
  obtain ⟨hk, hc⟩ := routeMode_keeps (replies := replies) (s := s) s.mc.mode s.mc.source
    (mc := { s.mc with mode := new, source := source, record := record }) rfl
  refine hk.trans (settleChain_keeps_laws _ _ _ (.inl ((allCalm_append ..).mpr ⟨hc, ?_⟩)))
  split <;> simp [Calm]

theorem takeMode_keeps (new : UnitMode) (source : ServiceSource) : Keeps replies s (takeMode new source s) := by
  unfold takeMode
  split
  · exact changeMode_keeps new source
  · split
    · exact (keeps_modeControl (mc := { s.mc with source := source }) rfl id).trans (settle_keeps_laws (by simp [Calm]))
    · split
      · exact settle_keeps_laws (by simp [Calm])
      · exact Keeps.refl _ _

theorem answerSetMode_keeps (fields : List Byte) : Keeps replies s (answerSetMode fields s).state := by
  unfold answerSetMode
  split
  · split
    · exact Keeps.refl _ _
    · exact takeMode_keeps _ _
    · exact Keeps.refl _ _
  · split
    · split
      · exact takeMode_keeps _ _
      · exact Keeps.refl _ _
    · exact Keeps.refl _ _
  · exact Keeps.refl _ _

theorem answerUnitSettings_keeps (fields : List Byte) : Keeps replies s (answerUnitSettings fields s).state := by
  unfold answerUnitSettings
  split
  · exact Keeps.refl _ _
  next new hnew =>
    split
    · exact Keeps.refl _ _
    next hbusy =>
      obtain ⟨hk, hc⟩ := routeSettings_keeps (replies := replies) (s := s) (settingsOf_inRange hnew) (Nat.eq_zero_of_not_pos hbusy)
      exact Keeps.trans hk (settleChain_keeps_laws _ _ _ (.inl ((allCalm_append ..).mpr ⟨hc, allCalm_nil⟩)))

theorem answerZoneTargets_keeps (fields : List Byte) : Keeps replies s (answerZoneTargets fields s).state := by
  unfold answerZoneTargets
  split
  · exact Keeps.refl _ _
  next i _ =>
    refine (keeps_zoneSet i fun hz => ?_).trans (settle_keeps_laws (by simp [Calm]))
    have hpm := clampNat_bounds (a := 5) (b := 500) (x := numAt 1 fields) (by decide)
    have hrh := clampNat_bounds (a := 300) (b := 700) (x := numAt 3 fields) (by decide)
    simp only [zoneEntryInRange, Bool.and_eq_true, decide_eq_true_eq] at hz ⊢
    tauto

theorem answerZoneEntry_keeps (fields : List Byte) : Keeps replies s (answerZoneEntry fields s).state := by
  unfold answerZoneEntry
  split
  · exact Keeps.refl _ _
  next i _ =>
    split
    · exact Keeps.refl _ _
    next e he =>
      split
      · exact Keeps.refl _ _
      next hok =>
        refine (keeps_zoneSet i fun _ => ?_).trans (settle_keeps_laws (by simp [Calm]))
        rw [bindZone_entry]
        refine zoneEntryOf_fieldsInRange he ?_
        change e.node ≤ 30
        by_contra hbig
        exact hok ⟨by omega, .inl (by omega)⟩

theorem answerPollList_keeps (fields : List Byte) : Keeps replies s (answerPollList fields s).state := by
  unfold answerPollList
  split
  · exact Keeps.refl _ _
  · split
    · split
      · exact Keeps.refl _ _
      · split
        · exact Keeps.refl _ _
        · exact (keeps_line_of_down (loadPollList_down ..)).trans (settle_keeps_laws (loadPollList_calm ..))
    · exact Keeps.refl _ _

theorem answerForward_keeps (fields : List Byte) : Keeps replies s (answerForward fields s).state := by
  unfold answerForward
  split
  · exact Keeps.refl _ _
  · split
    · exact Keeps.refl _ _
    · split
      · exact Keeps.refl _ _
      · split
        · exact Keeps.refl _ _
        · split
          · exact Keeps.refl _ _
          next hroom =>
            refine keeps_line fun _ => ?_
            rw [forwardMessage_down, List.length_append, List.length_singleton]
            omega

theorem answerInject_keeps (fields : List Byte) : Keeps replies s (answerInject fields s).state := by
  unfold answerInject
  split
  · split
    · exact Keeps.refl _ _
    · exact (keeps_line_of_down (injectReading_down ..)).trans (settle_keeps_laws (injectReading_calm ..))
  · exact Keeps.refl _ _

theorem answerLineReset_keeps : Keeps replies s (answerLineReset s).state :=
  (keeps_line fun _ => by rw [resetLine_down]; exact Nat.zero_le _).trans (settle_keeps_laws (by simp [Calm]))

theorem answerRampProfile_keeps (fields : List Byte) : Keeps replies s (answerRampProfile fields s).state := by
  unfold answerRampProfile
  split
  · exact Keeps.refl _ _
  · split
    · exact Keeps.refl _ _
    · split
      · exact Keeps.refl _ _
      · split
        · split
          next hin => exact keeps_blower ⟨id, Nat.le_refl _, id, fun h => quad_all_set _ hin h⟩
          · exact Keeps.refl _ _
        · exact Keeps.refl _ _

theorem answerDamperEntry_keeps (fields : List Byte) : Keeps replies s (answerDamperEntry fields s).state := by
  unfold answerDamperEntry
  split
  · exact Keeps.refl _ _
  next i _ =>
    split
    · exact Keeps.refl _ _
    next e he =>
      dsimp only
      split
      · exact Keeps.refl _ _
      next hbusy =>
        exact (keeps_loadDamper i (damperEntryOf_inRange he) (Nat.eq_zero_of_not_pos fun h => hbusy (.inl h))).trans
          (settle_keeps_laws (by simp [Calm]))

theorem length_halves (octets : List Byte) : (halves octets).length = octets.length / 2 := by
  induction octets using halves.induct with
  | case1 a b rest ih => simp [halves, ih]; omega
  | case2 t h =>
    match t with
    | [] => rfl
    | [_] => simp [halves]
    | a :: b :: rest => exact absurd rfl (h a b rest)

theorem answerFanCurve_keeps (fields : List Byte) (hlen : fields.length = 34) :
    Keeps replies s (answerFanCurve fields s).state := by
  unfold answerFanCurve
  dsimp only
  split
  next hin =>
    refine keeps_filters (fs := s.fs) (fun h1 h2 => ⟨h1, h2⟩) (fun _ => ?_) rfl id rfl
    unfold curveInRange
    rw [hin, Bool.and_true, beq_iff_eq, List.length_map, length_halves, hlen]
  · exact Keeps.refl _ _

theorem answerFilterClass_keeps (fields : List Byte) : Keeps replies s (answerFilterClass fields s).state := by
  unfold answerFilterClass
  split
  · exact Keeps.refl _ _
  · split
    · exact Keeps.refl _ _
    · split
      · exact Keeps.refl _ _
      next hin =>
        split
        · exact Keeps.refl _ _
        · exact keeps_filters (du := s.du) (fun h1 h2 => ⟨h1, h2⟩) id rfl (fun h => quad_all_set _ (by simpa using hin) h) rfl

theorem answerFilterReplaced_keeps (fields : List Byte) : Keeps replies s (answerFilterReplaced fields s).state := by
  unfold answerFilterReplaced
  split
  · split
    · exact Keeps.refl _ _
    next c _ =>
      obtain ⟨hclasses, hfactory⟩ := replaceFilter_classes (byteAt 0 fields == 2#8) c (wordAt 2 fields) s.fs
      exact (keeps_filters (du := s.du) (replaceFilter_kept _ _ _) id rfl (by rw [hclasses]; exact id) hfactory).trans
        (settle_keeps_laws (replaceFilter_calm ..))
  · exact Keeps.refl _ _

theorem answerClearLockout_keeps : Keeps replies s (answerClearLockout s).state := by
  unfold answerClearLockout
  split
  · exact (keeps_sequencer clearLockout_law (clearLockout_off ..)).trans (settle_keeps_laws (clearLockout_calm ..))
  · exact Keeps.refl _ _

theorem answerStoreWrite_keeps (fields : List Byte) (hlen : fields.length = 6) :
    Keeps replies s (answerStoreWrite fields s).state := by
  unfold answerStoreWrite
  dsimp only
  split
  · exact Keeps.refl _ _
  next haddress =>
    split
    · exact Keeps.refl _ _
    next hother =>
      refine keeps_store (handItem_law ⟨?_, fun _ x hx hp => ?_⟩)
      · have hfour : ((fields.drop 2).take 4).length = 4 := by simp [hlen]
        exact ⟨hfour, by omega, by omega, by omega⟩
      · unfold isPanelItem at hp
        cases ht : x.target with
        | panel b =>
          by_contra hne
          refine hother (List.any_eq_true.mpr ⟨x, hx, ?_⟩)
          rw [ht]
          exact bne_iff_ne.mpr fun hb => hne (congrArg StoreTarget.panel hb)
        | f1 | f2 | bh => rw [ht] at hp; cases hp

/-! ### Service Drive -/

theorem driveBlower_keeps (demand : Option Half) : Keeps replies s (driveBlower demand s) := by
  unfold driveBlower
  split
  next b =>
    exact (keeps_blower (bd := { s.bd with staged := b.toNat }) ⟨id, Nat.le_refl _, id, id⟩).trans
      (keeps_modeControl (mc := { s.mc with record := { s.mc.record with blower := some b.toNat } }) rfl id)
  · exact Keeps.refl _ _

theorem driveDamper_kept (t : Byte × Half) (v : Six Damper) : DampersKept v (driveDamper t v) := by
  unfold driveDamper
  split
  · exact DampersKept.set _ _ (takeTarget_kept ..)
  · exact fun _ => DamperKept.refl _

theorem driveDampers_keeps (targets : List (Byte × Half)) : Keeps replies s (driveDampers targets s) := by
  unfold driveDampers
  induction targets generalizing s with
  | nil => exact Keeps.refl _ _
  | cons t rest ih => exact (keeps_dampers (driveDamper_kept t s.dp.dampers)).trans ih

theorem drivePump_keeps {request : Option Byte}
    (h : request = some 1#8 → pumpRefusal s.mc.settings.pumpFitted s.tm = none) : Keeps replies s (drivePump request s) := by
  unfold drivePump
  split
  next o =>
    dsimp only
    refine (keeps_tank (tm := if (o == 1#8) = true then servicePumpOn s.tm else servicePumpOff s.tm) fun hl => ?_).trans
      (keeps_modeControl (mc := { s.mc with record := { s.mc.record with pump := some (o == 1#8) } }) rfl id)
    split
    next ho =>
      obtain rfl : o = 1#8 := by simpa using ho
      exact servicePumpOn_law _ (h rfl) hl
    · exact servicePumpOff_law hl
  · exact Keeps.refl _ _

theorem driveCompressor_keeps {request : Option Byte} (hmode : s.mc.mode = .service)
    (h : request = some 1#8 → s.ds.service = true ∨ refusesCompressor s.mc.settings.coilMinimum s.ds = false) :
    Keeps replies s (driveCompressor request s) := by
  unfold driveCompressor
  split
  next o =>
    dsimp only
    refine (keeps_sequencer (ds := if (o == 1#8) = true then serviceOn s.ds else serviceOff s.ds) (fun hl => ?_) ?_).trans
      (keeps_modeControl (mc := { s.mc with record := { s.mc.record with compressor := some (o == 1#8) } }) rfl id)
    · split
      next ho =>
        obtain rfl : o = 1#8 := by simpa using ho
        rw [hmode] at hl ⊢
        exact serviceOn_law hl (h rfl)
      · exact serviceOff_law hl
    · split
      · exact serviceOn_off _
      · exact serviceOff_off _
  · exact Keeps.refl _ _

@[simp] theorem driveBlower_frame (demand : Option Half) : (driveBlower demand s).tm = s.tm
    ∧ (driveBlower demand s).ds = s.ds ∧ (driveBlower demand s).mc.mode = s.mc.mode
    ∧ (driveBlower demand s).mc.settings = s.mc.settings := by
  unfold driveBlower
  split <;> exact ⟨rfl, rfl, rfl, rfl⟩

@[simp] theorem drivePump_frame (request : Option Byte) :
    (drivePump request s).ds = s.ds ∧ (drivePump request s).mc.mode = s.mc.mode
    ∧ (drivePump request s).mc.settings = s.mc.settings := by
  unfold drivePump
  split <;> exact ⟨rfl, rfl, rfl⟩

/-- A Service Drive that passes its checks keeps the laws, part by part (R153, R154). -/
theorem driveParts_keeps {p : ServiceParts} (hmode : s.mc.mode = .service) (hpump : pumpCheck p s = none)
    (hcompressor : compressorCheck p s = false) : Keeps replies s (driveParts p s) := by
  obtain ⟨htm, hds, hm, hset⟩ := driveBlower_frame (s := s) p.blower
  unfold driveParts
  refine ((driveBlower_keeps p.blower).trans (driveDampers_keeps p.dampers)).trans
    ((drivePump_keeps fun hp => ?_).trans (driveCompressor_keeps ?_ fun hc => ?_))
  · change pumpRefusal (driveBlower p.blower s).mc.settings.pumpFitted (driveBlower p.blower s).tm = none
    rw [hset, htm]
    simpa [pumpCheck, hp] using hpump
  · rw [(drivePump_frame _).2.1]
    exact hm.trans hmode
  · obtain ⟨hds', -, hset'⟩ := drivePump_frame (s := driveDampers p.dampers (driveBlower p.blower s)) p.pump
    rw [hds', hset']
    change (driveBlower p.blower s).ds.service = true
      ∨ refusesCompressor (driveBlower p.blower s).mc.settings.coilMinimum (driveBlower p.blower s).ds = false
    rw [hds, hset]
    cases hv : s.ds.service
    · right
      simpa [compressorCheck, hc, hv] using hcompressor
    · exact .inl rfl

theorem answerDrive_keeps (fields : List Byte) : Keeps replies s (answerDrive fields s).state := by
  unfold answerDrive
  split
  · exact Keeps.refl _ _
  next hmode =>
    split
    · exact Keeps.refl _ _
    · split
      · exact Keeps.refl _ _
      · split
        · exact Keeps.refl _ _
        · split
          · exact Keeps.refl _ _
          · split
            · exact Keeps.refl _ _
            next hpump =>
              split
              · exact Keeps.refl _ _
              next hcompressor =>
                exact driveParts_keeps (not_not.mp hmode) hpump (by simpa using hcompressor)

/-! ### The panel link's own requests and the reads -/

theorem answerNoticeMask_keeps (fields : List Byte) : Keeps replies s (answerNoticeMask fields s).state := by
  unfold answerNoticeMask
  dsimp only
  split
  · exact Keeps.refl _ _
  · exact keeps_panel fun h => pump_within ⟨h.relay, h.reply, h.notice, h.distinct, h.requests⟩

theorem answerClearNotices_keeps (fields : List Byte) : Keeps replies s (answerClearNotices fields s).state := by
  unfold answerClearNotices
  dsimp only
  split
  · exact Keeps.refl _ _
  · exact keeps_panel fun h => ⟨h.relay, h.reply, h.notice, h.distinct.filter _, h.requests⟩

theorem answerReadTable_state (fields : List Byte) : (answerReadTable fields s).state = s := by
  unfold answerReadTable
  dsimp only
  split
  · rfl
  · rfl
  · split <;> rfl
  · split <;> rfl
  · split <;> rfl
  · rfl
  · rfl

theorem answerReadStatus_keeps (fields : List Byte) : Keeps replies s (answerReadStatus fields s).state := by
  unfold answerReadStatus
  dsimp only
  split
  · exact keeps_panel fun h => ⟨h.relay, h.reply, h.notice, h.distinct, h.requests⟩
  · exact Keeps.refl _ _
  · exact Keeps.refl _ _
  · exact Keeps.refl _ _
  · exact keeps_freeUsed _
  · exact Keeps.refl _ _

theorem answerReadNode_keeps (fields : List Byte) : Keeps replies s (answerReadNode fields s).state := by
  unfold answerReadNode
  split
  · exact Keeps.refl _ _
  · exact keeps_freeUsed _

theorem answerReadZone_keeps (fields : List Byte) : Keeps replies s (answerReadZone fields s).state := by
  unfold answerReadZone
  split
  · exact Keeps.refl _ _
  · exact keeps_freeUsed _

theorem answerReadStage_keeps (fields : List Byte) : Keeps replies s (answerReadStage fields s).state := by
  unfold answerReadStage
  split
  · exact keeps_freeUsed _
  · split
    · exact keeps_freeUsed _
    · exact Keeps.refl _ _

theorem answerStoreRead_state (fields : List Byte) : (answerStoreRead fields s).state = s := by
  unfold answerStoreRead
  dsimp only
  split
  · rfl
  · split <;> rfl

/-- The owner of a request keeps the laws when its fields have the length Table 11-2 fixes. -/
theorem ownerAnswer_keeps (kind : RequestKind) (number : Byte) (fields : List Byte)
    (hlen : lengthHolds kind (number :: fields) = true) : Keeps replies s (ownerAnswer kind fields s).state := by
  have fixed : ∀ n, fixedLength kind = some (n + 1) → fields.length = n := by
    intro n hn
    simpa [lengthHolds, hn] using hlen
  cases kind with
  | setMode => exact answerSetMode_keeps fields
  | setZoneTargets => exact answerZoneTargets_keeps fields
  | loadZoneEntry => exact answerZoneEntry_keeps fields
  | loadPollList => exact answerPollList_keeps fields
  | loadFanCurve => exact answerFanCurve_keeps fields (fixed 34 rfl)
  | loadRampProfile => exact answerRampProfile_keeps fields
  | loadFilterClass => exact answerFilterClass_keeps fields
  | loadDamperEntry => exact answerDamperEntry_keeps fields
  | loadUnitSettings => exact answerUnitSettings_keeps fields
  | readTable =>
    change Keeps replies s (answerReadTable fields s).state
    rw [answerReadTable_state]
    exact Keeps.refl _ _
  | readStatus => exact answerReadStatus_keeps fields
  | readNode => exact answerReadNode_keeps fields
  | readZone => exact answerReadZone_keeps fields
  | readStage => exact answerReadStage_keeps fields
  | readFinishCauses => exact Keeps.refl _ _
  | readCounters => exact Keeps.refl _ _
  | filterReplaced => exact answerFilterReplaced_keeps fields
  | forwardToNode => exact answerForward_keeps fields
  | setNoticeMask => exact answerNoticeMask_keeps fields
  | clearNotices => exact answerClearNotices_keeps fields
  | clearLockout => exact answerClearLockout_keeps
  | clearPumpFault => exact keeps_tank (clearPumpFault_law _ _)
  | serviceDrive => exact answerDrive_keeps fields
  | injectSample => exact answerInject_keeps fields
  | storeRead =>
    change Keeps replies s (answerStoreRead fields s).state
    rw [answerStoreRead_state]
    exact Keeps.refl _ _
  | storeWrite => exact answerStoreWrite_keeps fields (fixed 6 rfl)
  | zoneLineReset => exact answerLineReset_keeps
  | restart => exact keeps_panel fun h => ⟨h.relay, h.reply, h.notice, h.distinct, h.requests⟩

theorem answer_keeps (payload : List Byte) : Keeps replies s (answer payload s).state := by
  unfold answer
  split
  · exact Keeps.refl _ _
  next number fields =>
    split
    · exact Keeps.refl _ _
    · split
      next hlen => exact ownerAnswer_keeps _ number fields hlen
      · exact Keeps.refl _ _

/-! ### Taking Requests -/

/-- A Request is taken only with fewer than 4 Replies standing, so there is a place for its Reply (R168, R171). -/
theorem takeRequest_keeps (r : Request) (h : canTake s.pl = true) : Keeps 4 s (takeRequest r s) := by
  have hroom : countFrames .reply s.pl.upward < 4 := by simp [canTake] at h; exact h.1
  have hthree : Keeps 3 s (answer r.payload s).state := answer_keeps r.payload
  have hfour : Keeps 4 s (answer r.payload s).state := answer_keeps r.payload
  have hreply : Keeps 3 (answer r.payload s).state (answer r.payload s).state := Keeps.refl _ _
  exact { hfour with
    panel := fun hp => placeReply_within _ _ _ _
      (hthree.panel ⟨hp.relay, Nat.le_of_lt_succ hroom, hp.notice, hp.distinct, hp.requests⟩) }

theorem takeRequests_keeps (n : Nat) : Keeps 4 s (takeRequests n s) := by
  induction n generalizing s with
  | zero => exact Keeps.refl _ _
  | succ n ih =>
    unfold takeRequests
    split
    · exact Keeps.refl _ _
    next r rest hr =>
      split
      next hcan =>
        have hdrop : Keeps 4 s { s with pl := { s.pl with requests := rest } } :=
          keeps_panel fun h => ⟨h.relay, h.reply, h.notice, h.distinct, by
            have := h.requests
            rw [hr, List.length_cons] at this
            dsimp only
            omega⟩
        exact hdrop.trans ((takeRequest_keeps (s := { s with pl := { s.pl with requests := rest } }) r hcan).trans ih)
      · exact Keeps.refl _ _

theorem receiveRequest_keeps (tag : Byte) (payload : List Byte) : Keeps 4 s (receiveRequest tag payload s) :=
  (keeps_panel (queueRequest_within tag payload)).trans (takeRequests_keeps _)

/-! ### The resets -/

theorem dampersAfresh_laws (dp : Positioner) (i : Fin 6) :
    damperInvariant ((dampersAfresh dp).dampers.get i) = true ∧ AllowanceShare ((dampersAfresh dp).dampers.get i)
      ∧ damperEntryInRange ((dampersAfresh dp).dampers.get i).entry = true := by
  simp only [dampersAfresh, Six.get_map]
  generalize (dp.dampers.get i).homeSwitch = home
  refine ⟨?_, ⟨by simp [Damper.reset], fun _ => ⟨rfl, rfl⟩, fun _ => rfl, by simp [Damper.reset]⟩, rfl⟩
  rw [damperInvariant_iff]
  simp [Damper.reset]

theorem sequencerReset_law (coilMinimum : Nat) : SequencerLaw .off coilMinimum Sequencer.reset :=
  Resting.law ⟨rfl, rfl, Nat.zero_le _, by simp⟩ (by simp [Sequencer.reset]) (by simp [Sequencer.reset])
    (by simp [Sequencer.reset]) (by simp [Sequencer.reset]) (by simp [Sequencer.reset])

theorem panelReset_within (replies : Nat) : PanelWithin replies Panel.reset :=
  ⟨Nat.zero_le _, Nat.zero_le _, Nat.zero_le _, List.nodup_nil, Nat.zero_le _⟩

theorem defaultProfiles_inRange (seconds : Nat) : (Blower.reset seconds).profiles.toList.all profileInRange = true := by
  have h : (Blower.reset 0).profiles.toList.all profileInRange = true := by decide
  exact h

/-- Every block at its reset values meets every law, with the curve, the classes and the accounts within their bounds. -/
theorem keeps_reset {t : State} (hpending : t.pending = s.pending)
    (hiu : t.iu = Intake.reset) (hdmu : t.dmu = Demand.reset) (hbd : ∃ n, t.bd = Blower.reset n)
    (hdp : t.dp = dampersAfresh s.dp) (hds : t.ds = Sequencer.reset) (htm : t.tm = tankAfresh s.tm)
    (hmc : t.mc = ModeControl.reset) (hpl : t.pl = Panel.reset)
    (hnvs : StoreLaw s.nvs → StoreLaw t.nvs ∧ ReadsKeptBelow 256 s.nvs.cells t.nvs.cells)
    (htables : tablesInRange s = true → curveInRange t.du.curve = true ∧ curveInRange t.du.factoryCurve = true
      ∧ t.fs.classes.toList.all classInRange = true ∧ t.fs.factoryClasses.toList.all classInRange = true)
    (haccounts : filtersInvariant s.fs = true → filtersInvariant t.fs = true) : Keeps replies s t := by
  obtain ⟨seconds, hbd⟩ := hbd
  have hdampers := dampersAfresh_laws s.dp
  refine ⟨hpending, fun _ => ?_, fun _ => ?_, fun _ => ?_, fun _ => ?_, fun _ => ?_, fun _ => ?_, hnvs, fun _ => ?_, fun _ => ?_,
    fun ht => ?_, haccounts⟩
  · rw [hdp]
    unfold dampersInvariant
    rw [six_all_iff]
    exact fun i => (hdampers i).1
  · have hshares : AllowanceShares (dampersAfresh s.dp).dampers := fun i => ⟨(hdampers i).1, (hdampers i).2.1⟩
    rw [allowanceInvariant_iff, hdp, hbd]
    refine ⟨hshares, Nat.zero_le _, .inl rfl, ?_⟩
    have := hshares.covered_le
    simp only [Blower.reset]
    omega
  · rw [hbd]
    simp [StallLaw, Blower.reset, leftOf]
  · rw [hmc, hds]
    exact sequencerReset_law _
  · rw [hds]
    exact .inr rfl
  · rw [htm]
    exact pumpLaw_of_not_running (by simp [tankAfresh, Tank.reset])
  · rw [hpl]
    exact panelReset_within replies
  · rw [hiu]
    exact Nat.zero_le _
  · rw [tablesInRange_iff]
    obtain ⟨h1, h2, h3, h4⟩ := htables ht
    refine ⟨?_, ?_, ?_, h1, h2, h3, h4, ?_⟩
    · rw [hdmu]
      intro i
      simp only [Demand.reset, Six.get_all]
      decide
    · rw [hbd]
      exact defaultProfiles_inRange seconds
    · rw [hdp]
      exact fun i => (hdampers i).2.2
    · rw [hmc]
      decide

theorem restartNow_keeps : Keeps replies s (restartNow s) := by
  unfold restartNow
  dsimp only
  refine Keeps.trans ?_ (settle_keeps_laws (by split <;> simp [Calm]))
  refine keeps_reset rfl rfl rfl ⟨_, rfl⟩ rfl rfl rfl rfl rfl (fun h => ⟨h, fun _ _ => rfl⟩) (fun ht => ?_) (fun ha => ?_)
  · have ht := (tablesInRange_iff s).mp ht
    exact ⟨ht.factoryCurve, ht.factoryCurve, ht.factoryClasses, ht.factoryClasses⟩
  · rw [filtersInvariant_iff] at ha ⊢
    exact ⟨(restartStage_account ..).bounded ha.1, (restartStage_account ..).bounded ha.2⟩

theorem powerOn_keeps : Keeps replies s (powerOn s) := by
  unfold powerOn
  dsimp only
  refine Keeps.trans ?_ (settle_keeps_laws ((allCalm_append ..).mpr ⟨restoreStage_calm .., restoreStage_calm ..⟩))
  refine keeps_reset rfl rfl rfl ⟨_, rfl⟩ rfl rfl rfl rfl rfl (fun h => ?_) (fun _ => ?_) (fun _ => ?_)
  · exact ⟨⟨h.wf, ⟨List.nodup_nil, Nat.zero_le _⟩, by simp, by simp⟩, fun _ _ => rfl⟩
  · exact ⟨restoreCurve_inRange _, restoreCurve_inRange _, restoreClasses_inRange _, restoreClasses_inRange _⟩
  · rw [filtersInvariant_iff]
    exact ⟨restoreStage_bounded .., restoreStage_bounded ..⟩

/-! ### The panel link's events -/

theorem panelGapOver_keeps : Keeps replies s { s with pl := panelGapOver s.pl } := by
  refine keeps_panel fun h => ?_
  unfold panelGapOver
  split <;> exact ⟨h.relay, h.reply, h.notice, h.distinct, h.requests⟩

theorem heardInTime_keeps : Keeps replies s { s with pl := heardInTime s.pl } := by
  unfold heardInTime
  split
  · exact panelGapOver_keeps
  · exact Keeps.refl _ _

/-- A change of the receiver and of the link's counters alone. -/
theorem keeps_receiver {pl : Panel} (hu : pl.upward = s.pl.upward) (hp : pl.pending = s.pl.pending)
    (hr : pl.requests = s.pl.requests) : Keeps replies s { s with pl := pl } :=
  keeps_panel fun ⟨h1, h2, h3, h4, h5⟩ =>
    ⟨by rw [hu]; exact h1, by rw [hu]; exact h2, by rw [hu]; exact h3, by rw [hp]; exact h4, by rw [hr]; exact h5⟩

theorem takeFrame_keeps (octets : List Byte) : Keeps 4 s (takeFrame octets s) := by
  unfold takeFrame
  dsimp only
  split
  · split
    · exact (keeps_receiver (pl := { s.pl with receiver := .hunting }) rfl rfl rfl).trans (receiveRequest_keeps ..)
    · exact keeps_receiver rfl rfl rfl
  · exact keeps_receiver rfl rfl rfl

theorem takeOctet_keeps (octet : Byte) : Keeps 4 s (takeOctet octet s) := by
  unfold takeOctet
  split
  · split
    · exact keeps_receiver rfl rfl rfl
    · exact Keeps.refl _ _
  · dsimp only
    split
    · exact keeps_receiver rfl rfl rfl
    · split
      · exact takeFrame_keeps _
      · exact keeps_receiver rfl rfl rfl

theorem frameEnd_keeps : Keeps 4 s (frameEnd s) := by
  unfold frameEnd
  split
  · exact restartNow_keeps
  · split
    · refine (keeps_panel fun h => ?_).trans (takeRequests_keeps _)
      exact pump_within ⟨h.relay, h.reply, h.notice, h.distinct, h.requests⟩
    · exact Keeps.refl _ _

end Owners

end Sys2Proof.Machine

/-! One step of the machine: every command keeps the laws, and so do the clock and the choice among what is due. The statements
that every step keeps a law are then read off. -/
namespace Sys2Proof.Machine

/-- A command that answers a next state answers this one. -/
theorem next_inj {s t : State} (h : (Host.Outcome.next s : Host.Outcome State Fault Refusal) = .next t) : s = t := by
  injection h

/-- Where the walk of a command begins: at the state itself, or after the expiry of the off timer, the one event that may end
the off timer of a compressor that is off. -/
inductive Begins (s : State) : State → Prop
  | here : Begins s s
  | offTimer : Begins s { s with ds := (offExpiry s.mc.settings.coilMinimum s.ds).1 }

section Step
variable {s t : State}

/-- Every command keeps the laws from where it begins. -/
theorem exec_keeps (c : Instr) (h : exec c s = .next t) : ∃ m, Begins s m ∧ Keeps 4 m t := by
  have here : ∀ {u : State}, (Host.Outcome.next u : Host.Outcome State Fault Refusal) = .next t → Keeps 4 s u →
      ∃ m, Begins s m ∧ Keeps 4 m t := by
    intro u hu hk
    obtain rfl := next_inj hu
    exact ⟨s, .here, hk⟩
  have blower : ∀ {r : Blower × List Signal}, BlowerKept s.bd r.1 → AllCalm r.2 → Keeps 4 s (afterBlower r s) :=
    fun hb hc => (keeps_blower hb).trans (settle_keeps_laws hc)
  have damper : ∀ (i : Fin 6) {r : Damper × List Signal}, DamperKept (s.dp.dampers.get i) r.1 → AllCalm r.2 →
      Keeps 4 s (afterDamper i r s) :=
    fun i _ hd hc => (keeps_dampers (DampersKept.set _ i hd)).trans (settle_keeps_laws hc)
  have line : ∀ {r : Intake × List Signal}, r.1.down = s.iu.down → AllCalm r.2 → Keeps 4 s (afterIntake r s) :=
    fun hd hc => (keeps_line_of_down hd).trans (settle_keeps_laws hc)
  have sequencer : ∀ {r : Sequencer × List Signal},
      (SequencerLaw s.mc.mode s.mc.settings.coilMinimum s.ds → SequencerLaw s.mc.mode s.mc.settings.coilMinimum r.1) →
      OffKept s.ds r.1 → AllCalm r.2 → Keeps 4 s (afterSequencer r s) :=
    fun hl ho hc => (keeps_sequencer hl ho).trans (settle_keeps_laws hc)
  have tank : ∀ {r : Tank × List Signal}, (PumpLaw s.tm → PumpLaw r.1) → AllCalm r.2 → Keeps 4 s (afterTank r s) :=
    fun hl hc => (keeps_tank hl).trans (settle_keeps_laws hc)
  cases c with
  | powerOn => exact here h powerOn_keeps
  | restartTakesEffect =>
    change execRestartTakesEffect s = .next t at h
    unfold execRestartTakesEffect at h
    split at h
    · exact here h restartNow_keeps
    · exact here h (Keeps.refl _ _)
  | cycleStart => exact here h (keeps_line_of_down (by simp))
  | pollSent => exact here h (keeps_line_of_down (by simp))
  | zoneLineOctet octet => exact here h (line (by simp) (zoneOctet_calm ..))
  | answerWindowExpiry => exact here h (line (by simp) (windowExpiry_calm ..))
  | frameTimerExpiry => exact here h (line (by simp) (frameExpiry_calm ..))
  | answerGapEnd => exact here h (keeps_line_of_down (by simp))
  | nodeMessageStart => exact here h (keeps_line_of_down (by simp))
  | nodeMessageEnd => exact here h (keeps_line fun hd => (messageEnd_down _).trans hd)
  | messageWaitEnd => exact here h (keeps_line_of_down (by simp))
  | holdExpiry zone =>
    change execHoldExpiry zone s = .next t at h
    unfold execHoldExpiry at h
    dsimp only at h
    split at h
    · exact here h ((keeps_zoneSet zone (z := zoneHoldExpiry (s.dmu.zones.get zone)) fun hz => hz).trans (settle_keeps_laws (by simp [Calm])))
    · exact here h (Keeps.refl _ _)
  | rampTick => exact here h (keeps_rampTick.trans (settle_keeps_laws (blowerTick_calm ..)))
  | tachEdge instant => exact here h (keeps_blower (tachEdge_kept ..))
  | noCaptureExpiry => exact here h (keeps_blower (noCapture_kept _))
  | stallTimerExpiry => exact here h (blower (stallExpiry_kept _) (stallExpiry_calm _))
  | retryTimerExpiry => exact here h (keeps_blower (retryExpiry_kept _))
  | healthyRunExpiry => exact here h (keeps_blower (healthyExpiry_kept _))
  | runHoursSecond => exact here h (blower (runSecond_kept _) (runSecond_calm _))
  | moveStep i home => exact here h (damper i (moveStep_kept ..) (moveStep_calm ..))
  | homingStep i home => exact here h (damper i (homingStep_kept ..) (homingStep_calm ..))
  | seekStep i home => exact here h (damper i (seekStep_kept ..) (seekStep_calm ..))
  | offTimerExpiry =>
    obtain rfl := next_inj h
    exact ⟨_, .offTimer, settle_keeps_laws (offExpiry_calm ..)⟩
  | onTimerExpiry => exact here h (sequencer onExpiry_law (onExpiry_off ..) (onExpiry_calm ..))
  | airflowWaitExpiry => exact here h (sequencer waitExpiry_law (waitExpiry_off ..) (waitExpiry_calm ..))
  | airflowGraceExpiry => exact here h (sequencer graceExpiry_law (graceExpiry_off ..) (graceExpiry_calm ..))
  | frostDwellExpiry => exact here h (sequencer frostExpiry_law (frostExpiry_off _) (frostExpiry_calm _))
  | defrostMaxExpiry => exact here h (sequencer defrostExpiry_law (defrostExpiry_off ..) (defrostExpiry_calm ..))
  | tankSwitchChange sw closed => exact here h (keeps_tank (switchInput_law sw closed))
  | stabilityTimerExpiry sw => exact here h (tank (stabilityExpiry_law _ _ sw) (stabilityExpiry_calm ..))
  | rearmExpiry => exact here h (tank rearmExpiry_law (rearmExpiry_calm _))
  | maxRunExpiry => exact here h (tank maxRunExpiry_law (maxRunExpiry_calm _))
  | restExpiry => exact here h (keeps_tank (restExpiry_law _ _))
  | nvsWordDone => exact here h (keeps_store wordDone_law)
  | panelOctet octet => exact here h (heardInTime_keeps.trans (takeOctet_keeps octet))
  | panelGapTimeout => exact here h panelGapOver_keeps
  | upwardFrameEnd => exact here h frameEnd_keeps
  | noticeForm => exact here h (keeps_panel pump_within)
  | restart | unknownRequest | setMode | setZoneTargets | loadZoneEntry | loadPollList | loadFanCurve | loadRampProfile
  | loadFilterClass | loadDamperEntry | loadUnitSettings | readTable | readStatus | readNode | readZone | readStage
  | readFinishCauses | readCounters | filterReplaced | forwardToNode | setNoticeMask | clearNotices | clearLockout
  | clearPumpFault | serviceBlowerDemand | serviceDamperTargets | servicePumpOn | servicePumpOff | serviceCompressorOn
  | serviceCompressorOff | injectSample | storeRead | storeWrite | zoneLineReset =>
    exact here h (receiveRequest_keeps ..)

/-- A step is a millisecond of the clock, or a command on the state with another queue and another count of free values. -/
theorem step_cases (h : step s = .next t) :
    t = advance s ∨ ∃ (c : Instr) (queue : List Instr) (n : Nat), exec c { s with pending := queue, freeUsed := n } = .next t := by
  unfold step at h
  split at h
  next c rest _ => exact .inr ⟨c, rest, s.freeUsed, h⟩
  next hp =>
    split at h
    · exact .inl (next_inj h).symm
    next e others _ =>
      rw [afterChoice_eq] at h
      exact .inr ⟨_, s.pending, _, h⟩

/-- A law that the clock, the off timer's expiry and every change the laws are kept by keep is kept by every step. -/
theorem step_induct {P : State → Prop} (hqueue : ∀ s queue n, P s → P { s with pending := queue, freeUsed := n })
    (hclock : ∀ s, P s → P (advance s))
    (hoff : ∀ s, P s → P { s with ds := (offExpiry s.mc.settings.coilMinimum s.ds).1 })
    (hkeeps : ∀ s t, Keeps 4 s t → P s → P t) (hs : P s) (h : step s = .next t) : P t := by
  rcases step_cases h with rfl | ⟨c, queue, n, hc⟩
  · exact hclock s hs
  · obtain ⟨m, hm, hk⟩ := exec_keeps c hc
    refine hkeeps m t hk ?_
    cases hm with
    | here => exact hqueue s queue n hs
    | offTimer => exact hoff _ (hqueue s queue n hs)

end Step

/-! ### What a millisecond keeps -/

theorem advance_dampers (s : State) (i : Fin 6) :
    (advance s).dp.dampers.get i = { s.dp.dampers.get i with stepLeft := countDown (s.dp.dampers.get i).stepLeft } := by
  simp [advance]

theorem stepLeft_kept (d : Damper) (left : Option Nat) : DamperKept d { d with stepLeft := left } := by
  refine ⟨rfl, fun h => ?_, fun _ h => ⟨⟨h.waiting, h.other, h.unknown, h.seek⟩, Nat.le_refl _⟩⟩
  rw [damperInvariant_iff] at h ⊢
  exact h

theorem advance_dampersKept (s : State) : DampersKept s.dp.dampers (advance s).dp.dampers := by
  intro i
  rw [advance_dampers]
  exact stepLeft_kept _ _

theorem advance_allowance {s : State} (h : allowanceInvariant s = true) : allowanceInvariant (advance s) = true := by
  have hkept := (keeps_dampers (replies := 4) (advance_dampersKept s)).allowance h
  rw [allowanceInvariant_iff] at hkept ⊢
  exact hkept

/-! ### The laws -/

/-- Settles O23: the two laws of the blower by the walk, a ramp tick keeping the first by the cut to the allowance. -/
theorem blowerLawsAreKept : Obligations.BlowerLawsAreKept := by
  unfold Obligations.BlowerLawsAreKept
  refine ⟨⟨fun s => shareSum_ge_of_invariant, fun s t hs h => ?allowance⟩, fun s t hs h => ?stall⟩
  case allowance =>
    exact step_induct (P := fun s => allowanceInvariant s = true) (fun _ _ _ => id) (fun _ => advance_allowance)
      (fun _ => id) (fun _ _ hk => hk.allowance) hs h
  case stall =>
    exact step_induct (P := fun s => StallLaw s.bd) (fun _ _ _ => id) (fun _ => advanceBlower_stall) (fun _ => id)
      (fun _ _ hk => hk.stall) hs h

/-- Settles O29: the invariant of all six dampers by the walk, its clause for Settled and Moving being the law. -/
theorem damperLawIsKept : Obligations.DamperLawIsKept := by
  unfold Obligations.DamperLawIsKept
  refine ⟨fun s i hs hstate => ?law, fun s t hs h => ?kept⟩
  case law =>
    unfold dampersInvariant at hs
    rw [six_all_iff] at hs
    obtain ⟨-, hsettled, hmoving, -⟩ := (damperInvariant_iff _).mp (hs i)
    rcases hstate with hstate | hstate
    · exact hsettled hstate
    · obtain ⟨p, hp, hle, hshare⟩ := hmoving hstate
      refine ⟨p, hp, hle, hshare.trans ?_⟩
      have := requiredOpening_le_position (s.dp.dampers.get i)
      rwa [positionOf_some _ p hp] at this
  case kept =>
    refine step_induct (P := fun s => dampersInvariant s.dp = true) (fun _ _ _ => id) (fun s hs => ?_) (fun _ => id)
      (fun _ _ hk => hk.dampers) hs h
    exact (keeps_dampers (replies := 4) (advance_dampersKept s)).dampers hs

/-- Settles O34: the sequencer's invariant by the walk; and a compressor that was on goes off only with the off timer afresh. -/
theorem compressorLawsAreKept : Obligations.CompressorLawsAreKept := by
  unfold Obligations.CompressorLawsAreKept
  refine ⟨⟨fun mode coilMinimum ds hds hc => ?law, fun s t hs h => ?kept⟩, fun s t hc h hoff => ?off⟩
  case law =>
    have hlaw := (compressorInvariant_iff mode coilMinimum ds).mp hds
    exact ⟨hlaw.tank hc, hlaw.off hc, hlaw.airflow hc⟩
  case kept =>
    rw [compressorInvariant_iff] at hs ⊢
    exact step_induct (P := fun s => SequencerLaw s.mc.mode s.mc.settings.coilMinimum s.ds) (fun _ _ _ => id)
      (fun _ => advanceSequencer_law) (fun _ => offExpiry_law) (fun _ _ hk => hk.sequencer) hs h
  case off =>
    have hafresh : OffAfresh t.ds := by
      rcases step_cases h with rfl | ⟨c, queue, n, he⟩
      · exact .inl hc
      · obtain ⟨m, hm, hk⟩ := exec_keeps c he
        refine hk.off (.inl ?_)
        cases hm with
        | here => exact hc
        | offTimer => exact offExpiry_on _ _ hc
    rcases hafresh with hon | hleft
    · rw [hon] at hoff; cases hoff
    · exact hleft

/-- Settles O38: the pump's limits by the walk. -/
theorem pumpLimitsAreKept : Obligations.PumpLimitsAreKept := by
  unfold Obligations.PumpLimitsAreKept
  refine ⟨fun tm htm => (pumpInvariant_iff tm).mp htm, fun s t hs h => ?_⟩
  rw [pumpInvariant_iff] at hs ⊢
  exact step_induct (P := fun s => PumpLaw s.tm) (fun _ _ _ => id) (fun _ => advanceTank_law) (fun _ => id)
    (fun _ _ hk => hk.pump) hs h

/-- Settles O49: the store's law and its factory region by the walk. -/
theorem storeIsKept : Obligations.StoreIsKept := by
  unfold Obligations.StoreIsKept
  intro fits hfits
  have items : ∀ nvs, fits nvs ↔ (∀ x ∈ nvs.queue, ItemFits x) ∧ ∀ w, nvs.current = some w → ItemFits w.item := by
    intro nvs
    rw [hfits]
    refine ⟨fun h => ⟨fun x hx => h x (.inl hx), fun w hw => h w.item (.inr ⟨w, hw, rfl⟩)⟩, fun ⟨h1, h2⟩ x hx => ?_⟩
    rcases hx with hx | ⟨w, hw, rfl⟩
    · exact h1 x hx
    · exact h2 w hw
  refine ⟨(items _).mpr ⟨by simp [State.reset], by simp [State.reset]⟩, fun s t hwf hqueue hs h => ?_⟩
  obtain ⟨hitems, hcurrent⟩ := (items _).mp hs
  have hlaw : StoreLaw t.nvs ∧ ReadsKeptBelow 256 s.nvs.cells t.nvs.cells :=
    step_induct (P := fun u => StoreLaw u.nvs ∧ ReadsKeptBelow 256 s.nvs.cells u.nvs.cells) (fun _ _ _ => id)
      (fun _ hu => ⟨advanceStore_law hu.1, hu.2⟩) (fun _ => id)
      (fun _ _ hk hu => ⟨(hk.store hu.1).1, fun a ha => ((hk.store hu.1).2 a ha).trans (hu.2 a ha)⟩)
      ⟨⟨hwf, hqueue, hitems, hcurrent⟩, fun _ _ => rfl⟩ h
  exact ⟨hlaw.1.wf, hlaw.1.queue, (items _).mpr ⟨hlaw.1.items, hlaw.1.current⟩, hlaw.1.queue_length, hlaw.2⟩

/-- Settles O55: the bounds of the queues by the walk; the three kinds of frame add up to 24. -/
theorem queueBoundsAreKept : Obligations.QueueBoundsAreKept := by
  unfold Obligations.QueueBoundsAreKept
  refine ⟨fun pl hpl => ?_, fun s t hup hdistinct hqueues h => ?_⟩
  · simp only [upwardInvariant, Bool.and_eq_true, decide_eq_true_eq] at hpl
    rw [length_eq_countFrames]
    omega
  · obtain ⟨hpanel, hdown⟩ : PanelWithin 4 t.pl ∧ t.iu.down.length ≤ 4 :=
      step_induct (P := fun s => PanelWithin 4 s.pl ∧ s.iu.down.length ≤ 4) (fun _ _ _ => id)
        (fun _ ⟨⟨h1, h2, h3, h4, h5⟩, hd⟩ => ⟨⟨h1, h2, h3, h4, h5⟩, hd⟩) (fun _ => id)
        (fun _ _ hk hs => ⟨hk.panel hs.1, hk.down hs.2⟩)
        ⟨(panelWithin_four_iff s.pl).mpr ⟨hup, hdistinct, hqueues.1⟩, hqueues.2⟩ h
    obtain ⟨h1, h2, h3⟩ := (panelWithin_four_iff t.pl).mp hpanel
    exact ⟨h1, h2, h3, hdown⟩

/-- Settles O3: no change that a command makes touches the queue of waiting commands. -/
theorem commandsLeaveTheQueueAlone : Obligations.CommandsLeaveTheQueueAlone := by
  unfold Obligations.CommandsLeaveTheQueueAlone
  intro c s t h
  obtain ⟨m, hm, hk⟩ := exec_keeps c h
  cases hm with
  | here => exact hk.pending
  | offTimer => exact hk.pending

/-- Settles O56: the tables and the accounts by the walk. -/
theorem tablesAndAccountsAreKept : Obligations.TablesAndAccountsAreKept := by
  unfold Obligations.TablesAndAccountsAreKept
  refine ⟨fun s t hs h => ?tables, fun s t hs h => ?accounts, fun fs hfs r hr => ?bounds⟩
  case tables =>
    refine step_induct (P := fun s => tablesInRange s = true) (fun _ _ _ => id) (fun s hs => ?_) (fun _ => id)
      (fun _ _ hk => hk.tables) hs h
    have hkept := (keeps_dampers (replies := 4) (advance_dampersKept s)).tables hs
    rw [tablesInRange_iff] at hkept ⊢
    exact { hkept with }
  case accounts =>
    exact step_induct (P := fun s => filtersInvariant s.fs = true) (fun _ _ _ => id) (fun _ => id) (fun _ => id)
      (fun _ _ hk => hk.accounts) hs h
  case bounds =>
    obtain ⟨hpre, hfine⟩ := (filtersInvariant_iff fs).mp hfs
    rcases hr with rfl | rfl
    · exact hpre
    · exact hfine

end Sys2Proof.Machine

/-!
The step and the clock: what a millisecond does to each block, which commands are due, and the state after reset
(O1, O2, O4, O5).
-/
namespace Sys2Proof.Machine

/-! ### What is due -/

theorem ranOut_iff (x : Option Nat) : ranOut x = true ↔ x = some 0 := by
  rcases x with _ | _ | n <;> simp [ranOut]

@[simp] theorem mem_dueWhen (b : Bool) (e c : Instr) : c ∈ dueWhen b e ↔ b = true ∧ c = e := by
  cases b <;> simp [dueWhen]

theorem mem_dueLine (interval : Option Nat) (iu : Intake) (c : Instr) :
    c ∈ dueLine interval iu ↔
      (c = .cycleStart ∧ iu.phase = .idle ∧ iu.startDue = true ∧ ∃ ms, interval = some ms)
      ∨ (c = .pollSent ∧ ∃ k, iu.phase = .poll k 0)
      ∨ (c = .answerWindowExpiry ∧ ∃ k h heard f, iu.phase = .answer k ⟨h, heard, some 0, f⟩)
      ∨ (c = .frameTimerExpiry ∧ ∃ k h heard w, iu.phase = .answer k ⟨h, heard, w, some 0⟩)
      ∨ (c = .answerGapEnd ∧ ∃ k, iu.phase = .gap k 0)
      ∨ (c = .nodeMessageEnd ∧ iu.phase = .message 0)
      ∨ (c = .messageWaitEnd ∧ iu.phase = .messageWait 0) := by
  unfold dueLine
  cases hp : iu.phase with
  | idle => simp [Option.isSome_iff_exists]; tauto
  | poll k left => simp; tauto
  | answer k p => obtain ⟨h, heard, w, f⟩ := p; simp [ranOut_iff]; tauto
  | gap k left => simp; tauto
  | message left => simp; tauto
  | messageWait left => simp; tauto

theorem mem_dueZones (now : Word) (zones : Six Zone) (c : Instr) :
    c ∈ dueZones now zones ↔
      ∃ i, c = .holdExpiry i ∧ (zones.get i).sample = .held ∧ (zones.get i).holdExpiry = some now := by
  simp only [dueZones, List.mem_flatMap, mem_dueWhen, Bool.and_eq_true, beq_iff_eq]
  constructor
  · rintro ⟨i, -, h, rfl⟩
    exact ⟨i, rfl, h⟩
  · rintro ⟨i, rfl, h⟩
    exact ⟨i, by fin_cases i <;> decide, h, rfl⟩

theorem mem_dueBlower (bd : Blower) (c : Instr) :
    c ∈ dueBlower bd ↔
      (c = .rampTick ∧ bd.rampLeft = 0) ∨ (c = .noCaptureExpiry ∧ bd.noCaptureLeft = some 0)
      ∨ (c = .stallTimerExpiry ∧ bd.stallLeft = some 0) ∨ (c = .retryTimerExpiry ∧ bd.retryLeft = some 0)
      ∨ (c = .healthyRunExpiry ∧ bd.healthyLeft = some 0) ∨ (c = .runHoursSecond ∧ 1000 ≤ bd.runFraction) := by
  simp [dueBlower, ranOut_iff]; tauto

theorem mem_dueDamper (i : Fin 6) (d : Damper) (c : Instr) :
    c ∈ dueDamper i d ↔ d.stepLeft = some 0 ∧
      ((c = .moveStep i d.homeSwitch ∧ d.state = .moving ∧ d.seeking = false)
      ∨ (c = .seekStep i d.homeSwitch ∧ d.state = .moving ∧ d.seeking = true)
      ∨ (c = .homingStep i d.homeSwitch ∧ d.state = .homing)) := by
  unfold dueDamper
  by_cases hr : d.stepLeft = some 0
  · rw [if_pos ((ranOut_iff _).mpr hr)]
    cases hs : d.state <;> cases hk : d.seeking <;> simp [hr]
  · rw [if_neg (mt (ranOut_iff _).mp hr)]
    simp [hr]

theorem mem_dueSequencer (ds : Sequencer) (c : Instr) :
    c ∈ dueSequencer ds ↔
      (c = .offTimerExpiry ∧ ds.offLeft = some 0) ∨ (c = .onTimerExpiry ∧ ds.onLeft = some 0)
      ∨ (c = .airflowWaitExpiry ∧ ds.airflowWaitLeft = some 0) ∨ (c = .airflowGraceExpiry ∧ ds.graceLeft = some 0)
      ∨ (c = .frostDwellExpiry ∧ ds.frostLeft = some 0) ∨ (c = .defrostMaxExpiry ∧ ds.defrostLeft = some 0) := by
  simp [dueSequencer, ranOut_iff]; tauto

theorem mem_dueTank (tm : Tank) (c : Instr) :
    c ∈ dueTank tm ↔
      (c = .stabilityTimerExpiry .present ∧ tm.present.stabilityLeft = some 0)
      ∨ (c = .stabilityTimerExpiry .low ∧ tm.low.stabilityLeft = some 0)
      ∨ (c = .stabilityTimerExpiry .high ∧ tm.high.stabilityLeft = some 0)
      ∨ (c = .stabilityTimerExpiry .full ∧ tm.full.stabilityLeft = some 0)
      ∨ (c = .rearmExpiry ∧ tm.rearmLeft = some 0) ∨ (c = .maxRunExpiry ∧ tm.maxRunLeft = some 0)
      ∨ (c = .restExpiry ∧ tm.restLeft = some 0) := by
  simp [dueTank, ranOut_iff]; tauto

theorem mem_dueStore (nvs : Store) (c : Instr) :
    c ∈ dueStore nvs ↔ c = .nvsWordDone ∧ ∃ w, nvs.current = some w ∧ w.left = 0 := by
  unfold dueStore
  cases nvs.current <;> simp [and_comm]

theorem isRestartReply_iff (f : Frame) :
    isRestartReply f = true ↔ ∃ tag, f = ⟨.reply, tag, [0x1C#8, 0x00#8]⟩ := by
  obtain ⟨kind, tag, payload⟩ := f
  simp [isRestartReply]

theorem mem_duePanel (pl : Panel) (c : Instr) :
    c ∈ duePanel pl ↔
      (c = .panelGapTimeout ∧ ∃ octets, pl.receiver = .assembling octets 0)
      ∨ (c = .restartTakesEffect ∧ pl.restartPending = true
        ∧ ∃ tag, pl.sending = some ⟨⟨.reply, tag, [0x1C#8, 0x00#8]⟩, 0⟩)
      ∨ (c = .upwardFrameEnd ∧ (∃ f, pl.sending = some ⟨f, 0⟩)
        ∧ ¬ (pl.restartPending = true ∧ ∃ tag, pl.sending = some ⟨⟨.reply, tag, [0x1C#8, 0x00#8]⟩, 0⟩)) := by
  unfold duePanel
  rw [List.mem_append]
  refine or_congr ?_ ?_
  · cases pl.receiver <;> simp [and_comm]
  · rcases pl.sending with _ | ⟨f, left⟩
    · simp
    · by_cases hr : pl.restartPending = true ∧ isRestartReply f = true
      · obtain ⟨tag, rfl⟩ := (isRestartReply_iff f).mp hr.2
        simp only [hr, Bool.and_self, if_pos, mem_dueWhen, beq_iff_eq]
        simp
        tauto
      · have hf : ¬ (pl.restartPending = true ∧ ∃ tag, f = ⟨.reply, tag, [0x1C#8, 0x00#8]⟩) := by
          rwa [← isRestartReply_iff]
        simp only [Bool.and_eq_true, hr, if_neg, not_false_eq_true, mem_dueWhen, beq_iff_eq]
        simp at hf ⊢
        tauto

theorem mem_due (s : State) (c : Instr) :
    c ∈ due s ↔ c ∈ dueLine (intervalNow s) s.iu ∨ c ∈ dueZones s.iu.timeBase s.dmu.zones ∨ c ∈ dueBlower s.bd
      ∨ (∃ i, c ∈ dueDamper i (s.dp.dampers.get i)) ∨ c ∈ dueSequencer s.ds ∨ c ∈ dueTank s.tm ∨ c ∈ dueStore s.nvs
      ∨ c ∈ duePanel s.pl := by
  have hd : c ∈ (Six.numbers.flatMap fun i => dueDamper i (s.dp.dampers.get i))
      ↔ ∃ i, c ∈ dueDamper i (s.dp.dampers.get i) := by
    rw [List.mem_flatMap]
    exact ⟨fun ⟨i, _, h⟩ => ⟨i, h⟩, fun ⟨i, h⟩ => ⟨i, by fin_cases i <;> decide, h⟩⟩
  simp only [due, List.mem_append, hd, or_assoc]

/-- What never comes of itself: a reset by power, an input, a Request, and what the link does at once. -/
def FromOutside (c : Instr) : Prop :=
  requestPayload c ≠ none ∨ c = .powerOn ∨ c = .nodeMessageStart ∨ c = .noticeForm
    ∨ (∃ octet, c = .zoneLineOctet octet ∨ c = .panelOctet octet) ∨ (∃ instant, c = .tachEdge instant)
    ∨ ∃ switch closed, c = .tankSwitchChange switch closed

theorem not_fromOutside_of_due {s : State} {c : Instr} (h : c ∈ due s) : ¬ FromOutside c := by
  rw [mem_due] at h
  rcases h with h | h | h | ⟨i, h⟩ | h | h | h | h
  · rw [mem_dueLine] at h
    rcases h with ⟨rfl, -⟩ | ⟨rfl, -⟩ | ⟨rfl, -⟩ | ⟨rfl, -⟩ | ⟨rfl, -⟩ | ⟨rfl, -⟩ | ⟨rfl, -⟩ <;>
      simp [FromOutside, requestPayload]
  · obtain ⟨i, rfl, -⟩ := (mem_dueZones _ _ _).mp h
    simp [FromOutside, requestPayload]
  · rw [mem_dueBlower] at h
    rcases h with ⟨rfl, -⟩ | ⟨rfl, -⟩ | ⟨rfl, -⟩ | ⟨rfl, -⟩ | ⟨rfl, -⟩ | ⟨rfl, -⟩ <;> simp [FromOutside, requestPayload]
  · rw [mem_dueDamper] at h
    rcases h with ⟨-, ⟨rfl, -⟩ | ⟨rfl, -⟩ | ⟨rfl, -⟩⟩ <;> simp [FromOutside, requestPayload]
  · rw [mem_dueSequencer] at h
    rcases h with ⟨rfl, -⟩ | ⟨rfl, -⟩ | ⟨rfl, -⟩ | ⟨rfl, -⟩ | ⟨rfl, -⟩ | ⟨rfl, -⟩ <;> simp [FromOutside, requestPayload]
  · rw [mem_dueTank] at h
    rcases h with ⟨rfl, -⟩ | ⟨rfl, -⟩ | ⟨rfl, -⟩ | ⟨rfl, -⟩ | ⟨rfl, -⟩ | ⟨rfl, -⟩ | ⟨rfl, -⟩ <;>
      simp [FromOutside, requestPayload]
  · obtain ⟨rfl, -⟩ := (mem_dueStore _ _).mp h
    simp [FromOutside, requestPayload]
  · rw [mem_duePanel] at h
    rcases h with ⟨rfl, -⟩ | ⟨rfl, -⟩ | ⟨rfl, -⟩ <;> simp [FromOutside, requestPayload]

theorem choose_mem_due (n : Nat) (first : Instr) (others : List Instr) : choose n first others ∈ first :: others := by
  unfold choose
  have hlt : Config.tieBreak n (others.length + 1) % (others.length + 1) < (first :: others).length :=
    Nat.mod_lt _ (Nat.succ_pos _)
  rw [List.getD_eq_getElem _ _ hlt]
  exact List.getElem_mem hlt

/-! ### One millisecond -/

theorem countDown_eq_map : countDown = Option.map (· - 1) := by
  funext x
  cases x <;> rfl

theorem corrected_eq (p : Polarity) : corrected p = fun o => if p = .inverted then ~~~o else o := rfl

/-! ### The obligations about the step and the clock -/

/-- Settles O1, by the definition of a step. -/
theorem stepRunsTheFrontCommand : Obligations.StepRunsTheFrontCommand := by
  unfold Obligations.StepRunsTheFrontCommand
  intro c rest s h
  simp only [step, h]

/-- Settles O2: the choice among the due events, a millisecond block by block, and the membership lemmas of `due`. -/
theorem idleStepFollowsTheClock : Obligations.IdleStepFollowsTheClock := by
  unfold Obligations.IdleStepFollowsTheClock
  refine ⟨fun s hp => ⟨fun hd => ?none, fun e hd => ?one, fun e e' more hd => ?several⟩, ?millisecond,
    fun s => ⟨?timers, ?_, ?_, ?_, ?_, ?_, ?_, ?_, fun i => ?_, ?_, ?_, fun i home d hd => ⟨?move, ?seek, ?homing⟩, ?_, ?_,
      ?_, ?frame, fun c hc => ?outside⟩⟩
  case none => simp only [step, hp, hd]
  case one => simp [step, hp, hd, choose, afterChoice]
  case several =>
    refine ⟨choose s.freeUsed e (e' :: more), hd ▸ choose_mem_due _ _ _, ?_⟩
    simp only [step, hp, hd, afterChoice]
  case millisecond =>
    rintro s t less begun rfl rfl rfl
    refine ⟨rfl, ?_, fun k left h => ?_, fun left h => ?_, fun k hunt heard w f h => ?_, fun k left h => ?_,
      fun left h => ?_, fun h => ?_, fun hpoll hmessage => ?_, rfl, rfl, rfl, ?_, rfl, rfl, rfl, fun i => ?_, rfl,
      fun h => ?_, fun octets left h => ?_, rfl, rfl, rfl, rfl, rfl, rfl, rfl⟩
    · simp [advance, advanceIntake]
    · simp [advance, advanceIntake, advancePhase, advanceWire, beginOctets, octetsBegun, corrected_eq, h]
    · simp [advance, advanceIntake, advancePhase, advanceWire, beginOctets, octetsBegun, corrected_eq, h]
    · simp [advance, advanceIntake, advancePhase, countDown_eq_map, h]
    · simp [advance, advanceIntake, advancePhase, h]
    · simp [advance, advanceIntake, advancePhase, h]
    · simp [advance, advanceIntake, advancePhase, h]
    · cases hphase : s.iu.phase with
      | poll k left => exact absurd hphase (hpoll k left)
      | message left => exact absurd hphase (hmessage left)
      | idle | answer | gap | messageWait => simp [advance, advanceIntake, advancePhase, advanceWire, hphase]
    · simp [advance, advanceBlower, advanceSequencer, advanceTank, advanceSwitch, countDown_eq_map]
    · simp [advance, Six.get_map, countDown_eq_map]
    · simp [advance, advancePanel, advanceReceiver, h]
    · simp [advance, advancePanel, advanceReceiver, h]
  case outside =>
    have h := not_fromOutside_of_due hc
    simp only [FromOutside, not_or, not_exists, not_not] at h
    exact h
  all_goals
    simp [mem_due, mem_dueLine, mem_dueZones, mem_dueBlower, mem_dueDamper, mem_dueSequencer, mem_dueTank, mem_dueStore,
      mem_duePanel]
  case frame => rw [and_comm]
  all_goals
    subst hd
    tauto

/-! ### The state after reset -/

/-- Settles O4: every block of the state after reset, computed. -/
theorem resetValues : Obligations.ResetValues := by
  unfold Obligations.ResetValues
  refine ⟨rfl, fun i => ?_, ⟨rfl, rfl, rfl, rfl, rfl⟩, rfl, fun i => ?_, ?_, ?_, rfl, ?_, rfl, ⟨rfl, rfl, fun a => rfl⟩, rfl,
    rfl, rfl⟩
  · exact Six.get_all _ i
  · exact Six.get_all _ i
  · rintro curve rfl
    rfl
  · rintro c r rfl rfl
    rfl
  · rintro sw rfl
    rfl

/-- Settles O5: each invariant, computed. -/
theorem resetMeetsTheInvariants : Obligations.ResetMeetsTheInvariants := by
  unfold Obligations.ResetMeetsTheInvariants
  refine ⟨rfl, by decide, by decide, by decide, by decide, by decide, by decide, by decide, ?_, ?_, ?_⟩
  · unfold noticesDistinct
    decide
  · unfold writeQueueInvariant
    decide
  · unfold queuesBounded
    decide

end Sys2Proof.Machine

/-!
Records of the store and the two resets (O6): when the octets at an address are a valid record, what each record restores,
and the deliveries that the resets make.
-/
namespace Sys2Proof.Machine

/-! ### Valid records (R159) -/

@[simp] theorem readAll_length (cells : List Host.Cell) (n a : Nat) : (Memory.readAll cells a n).length = n := by
  induction n generalizing a with
  | zero => rfl
  | succ n ih => simp [Memory.readAll, ih]

/-- A record at an address: its key and length, its data and its check octet, with the sum 0. -/
def RecordAt (cells : List Host.Cell) (a : Nat) (k0 k1 : Byte) (words : Nat) (data : List Byte) : Prop :=
  data.length = 2 * words ∧ ∃ c, Memory.readAll cells a (2 * words + 4) = [k0, k1, octet words] ++ data ++ [c]
    ∧ octetSum (Memory.readAll cells a (2 * words + 4)) = 0#8

theorem recordAt_eq_some (cells : List Host.Cell) (a : Nat) (k0 k1 : Byte) (words : Nat) (data : List Byte) :
    recordAt cells a k0 k1 words = some data ↔ RecordAt cells a k0 k1 words data := by
  have hlen := readAll_length cells (2 * words + 4) a
  unfold recordAt RecordAt
  generalize Memory.readAll cells a (2 * words + 4) = octets at hlen ⊢
  simp only [Option.ite_none_right_eq_some, Option.some.injEq]
  constructor
  · rintro ⟨⟨hkey, hsum⟩, rfl⟩
    have hrest : (octets.drop 3).drop (2 * words) = [octets[2 * words + 3]] := by
      rw [List.drop_drop, show 3 + 2 * words = 2 * words + 3 by omega, List.drop_eq_getElem_cons (by omega),
        List.drop_eq_nil_of_le (by omega)]
    refine ⟨by simp [hlen], octets[2 * words + 3], ?_, hsum⟩
    rw [← hkey, ← hrest, List.append_assoc, List.take_append_drop, List.take_append_drop]
  · rintro ⟨hd, c, rfl, hsum⟩
    exact ⟨⟨rfl, hsum⟩, by simp [hd]⟩

/-- The check octet makes the sum of a record 0. -/
theorem octetSum_check (body : List Byte) : octetSum (body ++ [-octetSum body]) = 0#8 := by
  have hsum : octetSum (body ++ [-octetSum body]) = octetSum body + -octetSum body := by
    simp [octetSum, List.foldl_append]
  rw [hsum, BitVec.add_right_neg]

/-- The octets of a stage checkpoint: 18 octets of the record, filled up to whole words (Table 11-10, R161). -/
theorem stageItem_eq (fine : Bool) (r : StageRecord) :
    stageItem fine r = ⟨if fine then .f2 else .f1,
      ([0x46#8, if fine then 0x32#8 else 0x31#8, octet 7] ++ stageData r
        ++ [-octetSum ([0x46#8, if fine then 0x32#8 else 0x31#8, octet 7] ++ stageData r)])
      ++ [0xFF#8, 0xFF#8]⟩ := by
  cases fine <;> simp [stageItem, fillWords, recordOctets, stageData_length, Memory.erased]

theorem runHourItem_eq (seconds : Nat) :
    runHourItem seconds = ⟨.bh, [0x42#8, 0x48#8, octet 2] ++ nat32 seconds
      ++ [-octetSum ([0x42#8, 0x48#8, octet 2] ++ nat32 seconds)]⟩ := by
  simp [runHourItem, fillWords, recordOctets]

/-! ### Octets of numbers -/

@[simp] theorem hi_half (a b : Byte) : hi (half a b) = a := by
  apply BitVec.eq_of_getLsbD_eq
  intro i h
  simp only [half, hi, BitVec.getLsbD_append, BitVec.getLsbD_extractLsb']
  grind

@[simp] theorem lo_half (a b : Byte) : lo (half a b) = b := by
  apply BitVec.eq_of_getLsbD_eq
  intro i h
  simp only [half, lo, BitVec.getLsbD_append, BitVec.getLsbD_extractLsb']
  grind

@[simp] theorem octets16_half (a b : Byte) : octets16 (half a b) = [a, b] := by simp [octets16]

@[simp] theorem nat16_half (a b : Byte) : nat16 (half a b).toNat = [a, b] := by simp [nat16]

@[simp] theorem octet_toNat (a : Byte) : octet a.toNat = a := by simp [octet]

theorem toNat_nat16 {n : Nat} (h : n < 65536) : (BitVec.ofNat 16 n).toNat = n := by
  rw [BitVec.toNat_ofNat]
  omega

theorem toNat_octet {n : Nat} (h : n < 256) : (octet n).toNat = n := by
  rw [octet, BitVec.toNat_ofNat]
  omega

/-! ### The fan curve (R93) -/

theorem points_eq_halves (n : Nat) (data : List Byte) (h : data.length = 2 * n) :
    ((List.range n).map fun j => (half (data.getD (2 * j) 0#8) (data.getD (2 * j + 1) 0#8)).toNat)
      = (halves data).map BitVec.toNat := by
  induction n generalizing data with
  | zero => simp [List.length_eq_zero_iff.mp h, halves]
  | succ n ih =>
    rcases data with _ | ⟨a, _ | ⟨b, rest⟩⟩
    · simp at h
    · simp at h
      omega
    · have hrest : rest.length = 2 * n := by
        simp at h
        omega
      rw [List.range_succ_eq_map, List.map_cons, List.map_map, halves, List.map_cons, ← ih rest hrest]
      rfl

theorem halves_flatMap_nat16 (points : List Nat) (h : ∀ p ∈ points, p < 65536) :
    (halves (points.flatMap nat16)).map BitVec.toNat = points := by
  have hmap : points.flatMap nat16 = (points.map (BitVec.ofNat 16)).flatMap octets16 := by
    rw [List.flatMap_map]
    rfl
  calc (halves (points.flatMap nat16)).map BitVec.toNat = points.map (BitVec.toNat ∘ BitVec.ofNat 16) := by
        rw [hmap, halves_flatMap, List.map_map]
    _ = points.map id := List.map_congr_left fun p hp => toNat_nat16 (h p hp)
    _ = points := List.map_id points

theorem flatMap_nat16_halves (n : Nat) (data : List Byte) (h : data.length = 2 * n) :
    ((halves data).map BitVec.toNat).flatMap nat16 = data := by
  induction n generalizing data with
  | zero => simp [List.length_eq_zero_iff.mp h, halves]
  | succ n ih =>
    rcases data with _ | ⟨a, _ | ⟨b, rest⟩⟩
    · simp at h
    · simp at h
      omega
    · have hrest : rest.length = 2 * n := by
        simp at h
        omega
      simp [halves, ih rest hrest]

@[simp] theorem length_flatMap_nat16 (points : List Nat) : (points.flatMap nat16).length = 2 * points.length := by
  simp [Nat.mul_comm]

/-- The octets at 64 are a valid factory record of a fan curve (R93). -/
def CurveRecord (cells : List Host.Cell) (points : List Nat) : Prop :=
  points.length = 17 ∧ (∀ p ∈ points, p ≤ 1500) ∧ RecordAt cells 64 0x46#8 0x56#8 17 (points.flatMap nat16)

theorem restoreCurve_of_record {cells : List Host.Cell} {points : List Nat} (h : CurveRecord cells points) :
    restoreCurve cells = points := by
  obtain ⟨hlen, hrange, hrecord⟩ := h
  have hdata := (recordAt_eq_some _ _ _ _ _ _).mpr hrecord
  have hpoints := points_eq_halves 17 (points.flatMap nat16) (by simp [hlen])
  rw [halves_flatMap_nat16 points fun p hp => by have := hrange p hp; omega] at hpoints
  unfold restoreCurve
  simp only [hdata, hpoints]
  rw [if_pos (by simpa using hrange)]

theorem restoreCurve_builtIn {cells : List Host.Cell} (h : ∀ points, ¬ CurveRecord cells points) :
    restoreCurve cells = builtInCurve := by
  unfold restoreCurve
  cases hr : recordAt cells 64 0x46#8 0x56#8 17 with
  | none => rfl
  | some data =>
    have hrecord := (recordAt_eq_some _ _ _ _ _ _).mp hr
    dsimp only
    rw [points_eq_halves 17 data hrecord.1]
    refine if_neg fun hall => h ((halves data).map BitVec.toNat) ⟨?_, by simpa using hall, ?_⟩
    · rw [List.length_map, length_halves, hrecord.1]
    · rwa [flatMap_nat16_halves 17 data hrecord.1]

/-! ### The filter classes (R104) -/

/-- The fields of a class fit the widths of Table 11-10. -/
def ClassFits (c : FilterClass) : Prop :=
  c.capacity ≤ 65535 ∧ c.efficiency ≤ 65535 ∧ c.clean ≤ 65535 ∧ c.worn ≤ 65535 ∧ c.absent ≤ 65535 ∧ c.slope ≤ 255
    ∧ c.reference ≤ 65535 ∧ c.due ≤ 65535

theorem classFits_of_inRange {c : FilterClass} (h : classInRange c = true) (hcapacity : c.capacity ≤ 65535)
    (hslope : c.slope ≤ 255) : ClassFits c := by
  simp only [classInRange, Bool.and_eq_true, decide_eq_true_eq] at h
  unfold ClassFits
  omega

theorem classOf_filterClassOctets {c : FilterClass} (h : ClassFits c) : classOf (filterClassOctets c) = some c := by
  obtain ⟨h1, h2, h3, h4, h5, h6, h7, h8⟩ := h
  simp [filterClassOctets, nat16, octets16, classOf, toNat_octet (Nat.lt_succ_of_le h6)]
  obtain ⟨capacity, efficiency, clean, worn, absent, slope, reference, due⟩ := c
  simp at *
  omega

theorem eq_filterClassOctets_of_classOf {octets : List Byte} {c : FilterClass} (h : classOf octets = some c) :
    octets = filterClassOctets c ∧ ClassFits c := by
  unfold classOf at h
  split at h
  next =>
    cases h
    refine ⟨by simp [filterClassOctets], ?_⟩
    simp only [ClassFits]
    refine ⟨?_, ?_, ?_, ?_, ?_, ?_, ?_, ?_⟩ <;> bv_omega
  · cases h

@[simp] theorem filterClassOctets_length (c : FilterClass) : (filterClassOctets c).length = 15 := by
  simp [filterClassOctets]

/-- Four runs of fifteen octets are read back from their concatenation. -/
theorem quarters {a b c d : List Byte} (ha : a.length = 15) (hb : b.length = 15) (hc : c.length = 15)
    (hd : d.length = 15) :
    (a ++ b ++ c ++ d).take 15 = a ∧ ((a ++ b ++ c ++ d).drop 15).take 15 = b
      ∧ ((a ++ b ++ c ++ d).drop 30).take 15 = c ∧ ((a ++ b ++ c ++ d).drop 45).take 15 = d := by
  simp [List.drop_append, List.drop_eq_nil_of_le, List.take_of_length_le, *]

theorem eq_quarters {data : List Byte} (h : data.length = 60) :
    data = data.take 15 ++ (data.drop 15).take 15 ++ (data.drop 30).take 15 ++ (data.drop 45).take 15 := by
  have hlast : (data.drop 45).take 15 = data.drop 45 := List.take_of_length_le (by simp [h])
  have hsplit (n : Nat) : data.drop n = (data.drop n).take 15 ++ data.drop (n + 15) := by
    rw [← List.drop_drop, List.take_append_drop]
  calc data = data.take 15 ++ data.drop 15 := (List.take_append_drop 15 data).symm
    _ = _ := by rw [hlast, List.append_assoc, List.append_assoc, ← hsplit 30, ← hsplit 15]

/-- The octets at 128 are a valid factory record of four filter classes (R104). -/
def ClassesRecord (cells : List Host.Cell) (classes : Quad FilterClass) : Prop :=
  (∀ i, classInRange (classes.get i) = true ∧ ClassFits (classes.get i))
    ∧ RecordAt cells 128 0x46#8 0x43#8 30 (filterClassOctets classes.q0 ++ filterClassOctets classes.q1
      ++ filterClassOctets classes.q2 ++ filterClassOctets classes.q3)

theorem restoreClasses_of_record {cells : List Host.Cell} {classes : Quad FilterClass} (h : ClassesRecord cells classes) :
    restoreClasses cells = classes := by
  obtain ⟨hfits, hrecord⟩ := h
  have hdata := (recordAt_eq_some _ _ _ _ _ _).mpr hrecord
  have hf0 : ClassFits classes.q0 := (hfits 0).2
  have hf1 : ClassFits classes.q1 := (hfits 1).2
  have hf2 : ClassFits classes.q2 := (hfits 2).2
  have hf3 : ClassFits classes.q3 := (hfits 3).2
  have hq := quarters (filterClassOctets_length classes.q0) (filterClassOctets_length classes.q1)
    (filterClassOctets_length classes.q2) (filterClassOctets_length classes.q3)
  obtain ⟨h0, h1, h2, h3⟩ := hq
  unfold restoreClasses
  simp only [hdata, h0, h1, h2, h3, classOf_filterClassOctets hf0, classOf_filterClassOctets hf1,
    classOf_filterClassOctets hf2, classOf_filterClassOctets hf3]
  exact if_pos ⟨(hfits 0).1, (hfits 1).1, (hfits 2).1, (hfits 3).1⟩

theorem restoreClasses_builtIn {cells : List Host.Cell} (h : ∀ classes, ¬ ClassesRecord cells classes) :
    restoreClasses cells = Quad.all builtInClass := by
  unfold restoreClasses
  split
  next data hr =>
    have hrecord := (recordAt_eq_some _ _ _ _ _ _).mp hr
    split
    next a b c d ha hb hc hd =>
      refine if_neg fun hall => h ⟨a, b, c, d⟩ ?_
      obtain ⟨hoa, hfa⟩ := eq_filterClassOctets_of_classOf ha
      obtain ⟨hob, hfb⟩ := eq_filterClassOctets_of_classOf hb
      obtain ⟨hoc, hfc⟩ := eq_filterClassOctets_of_classOf hc
      obtain ⟨hod, hfd⟩ := eq_filterClassOctets_of_classOf hd
      refine ⟨fun i => ?_, ?_⟩
      · fin_cases i
        · exact ⟨hall.1, hfa⟩
        · exact ⟨hall.2.1, hfb⟩
        · exact ⟨hall.2.2.1, hfc⟩
        · exact ⟨hall.2.2.2, hfd⟩
      · dsimp only
        rw [← hoa, ← hob, ← hoc, ← hod, ← eq_quarters hrecord.1]
        exact hrecord
    · rfl
  · rfl

/-! ### The stage accounts and the run hours (R65, R113 to R116) -/

theorem restoreRunHours_of_octets {cells : List Host.Cell} {k0 k1 len a b c d check : Byte}
    (h : Memory.readAll cells 320 8 = [k0, k1, len, a, b, c, d, check]) :
    restoreRunHours cells = if k0 = 0x42#8 ∧ k1 = 0x48#8 ∧ len = 2#8 ∧ octetSum [k0, k1, len, a, b, c, d, check] = 0#8
      then (word a b c d).toNat else 0 := by
  have hr : recordAt cells 320 0x42#8 0x48#8 2 =
      if k0 = 0x42#8 ∧ k1 = 0x48#8 ∧ len = 2#8 ∧ octetSum [k0, k1, len, a, b, c, d, check] = 0#8
        then some [a, b, c, d] else none := by
    unfold recordAt
    simp only [Nat.reduceMul, Nat.reduceAdd, h]
    simp [octet, and_assoc]
  unfold restoreRunHours
  rw [hr]
  split
  next heq =>
    split at heq
    next hv =>
      cases heq
      rw [if_pos hv]
    · cases heq
  next hne =>
    rw [if_neg]
    intro hv
    rw [if_pos hv] at hne
    exact hne a b c d rfl

theorem stageStateOf_ne_missing (life due : Nat) : stageStateOf life due ≠ .missing := by
  unfold stageStateOf
  split
  · simp
  · split <;> simp

/-- The fields of a stage record that are in range (R113, R114): of the pre stage none is Missing. -/
def StageFieldsValid (fine : Bool) (n flags : Byte) (held life : Nat) : Prop :=
  n.toNat < 4 ∧ held ≤ 1999 ∧ life ≤ 1999 ∧ (fine = true ∨ flags.getLsbD 1 = false)

/-- The account that the fields of a stage record restore (R113, R114). -/
def restoredStage (i : Fin 4) (classes : Quad FilterClass) (dose held life : Nat) (flags : Byte) (stamp : Word) :
    StageRecord :=
  { number := i, dose := dose, remainder := 0, held := held, life := life
    state := if flags.getLsbD 1 then .missing else stageStateOf life (classes.get i).due
    restored := flags.getLsbD 0, checkpointLife := life, stamp := stamp, unsaved := false
    absentCount := 0, presentCount := 0 }

section
variable {fine : Bool} {classes : Quad FilterClass} {cells : List Host.Cell}

/-- An account that is lost: it starts from nothing, and its notice is posted (R115). -/
def lostStage (fine : Bool) : StageRecord × List Signal :=
  (StageRecord.fromNothing, [.notice .filterRecordLost (stageSubject fine)])

/-- The stage record found in the store. -/
def stageFound (fine : Bool) (cells : List Host.Cell) : Option (List Byte) :=
  if fine then recordAt cells 288 0x46#8 0x32#8 7 else recordAt cells 256 0x46#8 0x31#8 7

theorem restoreStage_none (h : stageFound fine cells = none) : restoreStage fine classes cells = lostStage fine := by
  unfold stageFound at h
  unfold restoreStage
  simp only [h]
  rfl

theorem restoreStage_some {n d3 d2 d1 d0 h1 h0 l1 l0 flags s3 s2 s1 s0 : Byte} {i : Fin 4}
    (h : stageFound fine cells = some [n, d3, d2, d1, d0, h1, h0, l1, l0, flags, s3, s2, s1, s0])
    (hi : n.toNat < 4 → i.val = n.toNat) :
    restoreStage fine classes cells =
      if n.toNat < 4 ∧ (half h1 h0).toNat ≤ 1999 ∧ (half l1 l0).toNat ≤ 1999 ∧ (fine = true ∨ flags.getLsbD 1 = false) then
        (restoredStage i classes (word d3 d2 d1 d0).toNat (half h1 h0).toNat (half l1 l0).toNat flags (word s3 s2 s1 s0),
          if flags.getLsbD 1 then [.filterMissing true] else [])
      else lostStage fine := by
  unfold stageFound at h
  unfold restoreStage
  simp only [h]
  by_cases hn : n.toNat < 4
  · have hni : (⟨n.toNat, hn⟩ : Fin 4) = i := Fin.ext (hi hn).symm
    rw [dif_pos hn, hni]
    simp only [hn, true_and]
    rfl
  · rw [dif_neg hn, if_neg fun hv => hn hv.1]
    rfl

theorem stageFound_of_octets {k0 k1 len n d3 d2 d1 d0 h1 h0 l1 l0 flags s3 s2 s1 s0 c : Byte} {octets : List Byte}
    (ho : octets = [k0, k1, len, n, d3, d2, d1, d0, h1, h0, l1, l0, flags, s3, s2, s1, s0, c])
    (h : Memory.readAll cells (if fine then 288 else 256) 18 = octets) :
    stageFound fine cells =
      if k0 = 0x46#8 ∧ k1 = (if fine then 0x32#8 else 0x31#8) ∧ len = 7#8 ∧ octetSum octets = 0#8
      then some [n, d3, d2, d1, d0, h1, h0, l1, l0, flags, s3, s2, s1, s0] else none := by
  subst ho
  unfold stageFound recordAt
  cases fine with
  | true =>
    simp only [if_true] at h ⊢
    simp only [Nat.reduceMul, Nat.reduceAdd, h]
    simp [octet, and_assoc]
  | false =>
    simp only [Bool.false_eq_true, if_false] at h ⊢
    simp only [Nat.reduceMul, Nat.reduceAdd, h]
    simp [octet, and_assoc]

/-- A stage is lost with its notice, or restored; only a fine stage is restored as Missing, and then it says so. -/
theorem restoreStage_cases (fine : Bool) (classes : Quad FilterClass) (cells : List Host.Cell) :
    restoreStage fine classes cells = lostStage fine
      ∨ ∃ r, (r.state = .missing → fine = true)
        ∧ restoreStage fine classes cells = (r, if r.state = .missing then [.filterMissing true] else []) := by
  unfold restoreStage
  dsimp only
  split
  · split
    · split
      next hv =>
        refine .inr ⟨_, fun hm => ?_, Prod.ext rfl ?_⟩
        · obtain ⟨-, -, hfine⟩ := hv
          refine hfine.resolve_right fun hflag => ?_
          simp only [hflag, Bool.false_eq_true, if_false] at hm
          exact stageStateOf_ne_missing _ _ hm
        · dsimp only
          split
          · rw [if_pos rfl]
          · rw [if_neg (stageStateOf_ne_missing _ _)]
      · exact .inl rfl
    · exact .inl rfl
  · exact .inl rfl

end

theorem restartStage_missing {classes : Quad FilterClass} {r : StageRecord} (h : r.state = .missing) :
    restartStage classes r = { r with absentCount := 0, presentCount := 0 } := by simp [restartStage, h]

theorem restartStage_derived {classes : Quad FilterClass} {r : StageRecord} (h : r.state ≠ .missing) :
    restartStage classes r = { r with
      absentCount := 0, presentCount := 0, state := stageStateOf r.life (classes.get r.number).due
      unsaved := if stageStateOf r.life (classes.get r.number).due = r.state then r.unsaved else true } := by
  unfold restartStage
  rw [if_neg h]
  dsimp only
  split
  next hs => rw [hs]
  · rfl

theorem restartStage_missing_iff (classes : Quad FilterClass) (r : StageRecord) :
    (restartStage classes r).state = .missing ↔ r.state = .missing := by
  by_cases h : r.state = .missing
  · simp [restartStage_missing h, h]
  · simp [restartStage_derived h, h, stageStateOf_ne_missing]

/-! ### What the resets deliver -/

theorem recompute_afresh (dampers : Six Damper) (missing : Bool) (h : ∀ i, (dampers.get i).entry.fitted = false) :
    recompute ModeControl.reset dampers { Demand.reset with filterMissing := missing }
      = { Demand.reset with filterMissing := missing } := by
  have hzones : (Six.tabulate fun i => zoneOpening false (dampers.get i).entry Zone.reset) = Six.all Zone.reset := by
    apply Six.ext_get
    intro i
    simp [zoneOpening, openingOf, Zone.reset, h i]
  exact congrArg (fun zones => { Demand.reset with zones := zones, filterMissing := missing }) hzones

section
variable {s : State}

theorem route_demandUpdate_afresh (missing : Bool) (hdmu : s.dmu = { Demand.reset with filterMissing := missing })
    (hmc : s.mc = ModeControl.reset) (hd : ∀ i, (s.dp.dampers.get i).entry.fitted = false) :
    route .demandUpdate s = (s, [.demandedDuty 0, .largestDemand 0]) := by
  have hkept : recompute s.mc s.dp.dampers s.dmu = s.dmu := by rw [hmc, hdmu, recompute_afresh _ _ hd]
  refine Prod.ext ?_ ?_
  · change { s with dmu := recompute s.mc s.dp.dampers s.dmu } = s
    rw [hkept]
  · rw [route_demandUpdate_deliveries, hkept, hmc, hdmu]
    rfl

theorem route_demandedDuty_same (duty : Nat) (h : s.bd.staged = duty) : route (.demandedDuty duty) s = (s, []) := by
  subst h
  change ({ s with bd := stageDemand s.mc.mode s.bd.staged s.bd }, []) = (s, [])
  rw [show stageDemand s.mc.mode s.bd.staged s.bd = s.bd from ite_self _]

theorem route_largestDemand_same (d : Nat) (hmode : s.mc.mode ≠ .standby) (h : s.mc.largest = d) :
    route (.largestDemand d) s = (s, []) := by
  subst h
  change routeLargest s.mc.largest s = (s, [])
  unfold routeLargest
  rw [if_neg fun hw => hmode hw.1]

theorem settleChain_update_afresh (n : Nat) (missing : Bool)
    (hdmu : s.dmu = { Demand.reset with filterMissing := missing }) (hmc : s.mc = ModeControl.reset)
    (hstaged : s.bd.staged = 0) (hd : ∀ i, (s.dp.dampers.get i).entry.fitted = false) :
    settleChain (n + 3) [.demandUpdate] s = s := by
  rw [settleChain_cons, route_demandUpdate_afresh missing hdmu hmc hd, List.append_nil, settleChain_cons,
    route_demandedDuty_same 0 hstaged, List.nil_append, settleChain_cons,
    route_largestDemand_same 0 (by simp [hmc, ModeControl.reset]) (by simp [hmc, ModeControl.reset]), List.nil_append,
    settleChain_nil]

/-- A fine stage told as Missing to the DMU right after a reset: the demand update that follows changes nothing. -/
theorem settleChain_missing_afresh (n : Nat) (hdmu : s.dmu = Demand.reset) (hmc : s.mc = ModeControl.reset)
    (hstaged : s.bd.staged = 0) (hd : ∀ i, (s.dp.dampers.get i).entry.fitted = false) :
    settleChain (n + 4) [.filterMissing true] s = { s with dmu := { Demand.reset with filterMissing := true } } := by
  rw [← hdmu, settleChain_cons]
  exact settleChain_update_afresh (s := { s with dmu := { s.dmu with filterMissing := true } }) n true (by rw [hdmu]) hmc
    hstaged hd

theorem settleChain_missing_if (n : Nat) (missing : Prop) [Decidable missing] (hdmu : s.dmu = Demand.reset)
    (hmc : s.mc = ModeControl.reset) (hstaged : s.bd.staged = 0)
    (hd : ∀ i, (s.dp.dampers.get i).entry.fitted = false) :
    settleChain (n + 4) (if missing then [.filterMissing true] else []) s
      = { s with dmu := { Demand.reset with filterMissing := decide missing } } := by
  by_cases h : missing
  · rw [if_pos h, settleChain_missing_afresh n hdmu hmc hstaged hd]
    simp [h]
  · rw [if_neg h, settleChain_nil]
    obtain ⟨iu, dmu, bd, dp, du, fs, ds, tm, mc, nvs, pl, freeUsed, pending⟩ := s
    subst hdmu
    simp [h, Demand.reset]

end

theorem dampersAfresh_unfitted (dp : Positioner) (i : Fin 6) : ((dampersAfresh dp).dampers.get i).entry.fitted = false := by
  simp [dampersAfresh, Damper.reset]

theorem restartNow_eq (s : State) :
    restartNow s = { s with
      iu := Intake.reset
      dmu := { Demand.reset with filterMissing := decide (s.fs.fine.state = .missing) }
      bd := Blower.reset s.bd.runSeconds
      dp := dampersAfresh s.dp
      du := Dose.reset s.du.factoryCurve
      fs := ⟨s.fs.factoryClasses, s.fs.factoryClasses, restartStage s.fs.factoryClasses s.fs.pre,
        restartStage s.fs.factoryClasses s.fs.fine⟩
      ds := Sequencer.reset
      tm := tankAfresh s.tm
      mc := ModeControl.reset
      pl := Panel.reset } := by
  unfold restartNow settle
  simp only [restartStage_missing_iff]
  exact settleChain_missing_if 3996 _ rfl rfl rfl (dampersAfresh_unfitted s.dp)

/-- The panel link after the notices of a stage restored or lost. -/
def lostNotice (fine : Bool) (deliveries : List Signal) (pl : Panel) : Panel :=
  if Signal.notice .filterRecordLost (stageSubject fine) ∈ deliveries then post .filterRecordLost (stageSubject fine) pl
  else pl

theorem settleChain_pre {pre : StageRecord × List Signal}
    (h : pre = lostStage false ∨ ∃ r, (r.state = .missing → false = true)
      ∧ pre = (r, if r.state = .missing then [.filterMissing true] else [])) (n : Nat) (rest : List Signal) (s : State) :
    ∃ k, settleChain (n + 1) (pre.2 ++ rest) s = settleChain (n + k) rest { s with pl := lostNotice false pre.2 s.pl } := by
  rcases h with rfl | ⟨r, hr, rfl⟩
  · exact ⟨0, by simp [lostStage, lostNotice, settleChain_cons, route]⟩
  · have hm : r.state ≠ .missing := fun hm => absurd (hr hm) (by simp)
    exact ⟨1, by simp [hm, lostNotice]⟩

theorem settleChain_fine {fine : StageRecord × List Signal}
    (h : fine = lostStage true ∨ ∃ r, (r.state = .missing → true = true)
      ∧ fine = (r, if r.state = .missing then [.filterMissing true] else [])) (n : Nat) {s : State}
    (hdmu : s.dmu = Demand.reset) (hmc : s.mc = ModeControl.reset) (hstaged : s.bd.staged = 0)
    (hd : ∀ i, (s.dp.dampers.get i).entry.fitted = false) :
    settleChain (n + 4) fine.2 s = { s with
      dmu := { Demand.reset with filterMissing := decide (fine.1.state = .missing) }
      pl := lostNotice true fine.2 s.pl } := by
  rcases h with rfl | ⟨r, -, rfl⟩
  · rw [← hdmu]
    simp [lostStage, lostNotice, settleChain_cons, route, StageRecord.fromNothing, hdmu, Demand.reset]
  · have hpl : lostNotice true (if r.state = .missing then [.filterMissing true] else []) s.pl = s.pl := by
      unfold lostNotice
      split <;> simp
    rw [settleChain_missing_if n _ hdmu hmc hstaged hd, hpl]

theorem powerOn_eq (s : State) (classes : Quad FilterClass) (pre fine : StageRecord × List Signal)
    (hclasses : classes = restoreClasses s.nvs.cells) (hpre : pre = restoreStage false classes s.nvs.cells)
    (hfine : fine = restoreStage true classes s.nvs.cells) :
    powerOn s = { s with
      iu := Intake.reset
      dmu := { Demand.reset with filterMissing := decide (fine.1.state = .missing) }
      bd := Blower.reset (restoreRunHours s.nvs.cells)
      dp := dampersAfresh s.dp
      du := Dose.reset (restoreCurve s.nvs.cells)
      fs := ⟨classes, classes, pre.1, fine.1⟩
      ds := Sequencer.reset
      tm := tankAfresh s.tm
      mc := ModeControl.reset
      nvs := ⟨s.nvs.cells, [], none⟩
      pl := lostNotice true fine.2 (lostNotice false pre.2 Panel.reset) } := by
  have hpreCases := restoreStage_cases false classes s.nvs.cells
  have hfineCases := restoreStage_cases true classes s.nvs.cells
  unfold powerOn settle
  dsimp only
  rw [← hclasses, ← hpre, ← hfine]
  rw [← hpre] at hpreCases
  rw [← hfine] at hfineCases
  obtain ⟨k, hk⟩ := settleChain_pre hpreCases 3999 fine.2 _
  rw [hk, show 3999 + k = (3995 + k) + 4 by omega]
  exact settleChain_fine hfineCases _ rfl rfl rfl (dampersAfresh_unfitted s.dp)

/-- Settles O6: both resets by what their deliveries come to, and the records by the octets that are valid ones. -/
theorem theResets : Obligations.TheResets := by
  unfold Obligations.TheResets
  refine ⟨fun s => ?powerOn, ⟨?restart, ?noRestart⟩, ?stage, ?hours, ?items, ?curve, ?classes, ?restartStage⟩
  case powerOn => exact congrArg Host.Outcome.next (powerOn_eq s _ _ _ rfl rfl rfl)
  case restart =>
    rintro s t tag left rfl hpending hsending
    have hleaves : restartReplyLeaves s.pl = true := by simp [restartReplyLeaves, hsending, hpending, isRestartReply]
    constructor
    · change execRestartTakesEffect s = _
      unfold execRestartTakesEffect
      rw [if_pos hleaves, restartNow_eq]
      rfl
    · change Host.Outcome.next (frameEnd s) = _
      unfold frameEnd
      rw [if_pos hleaves, restartNow_eq]
      rfl
  case noRestart =>
    intro s h
    have hstays : restartReplyLeaves s.pl = false := by
      unfold restartReplyLeaves
      rcases h with h | h
      · split <;> simp [h]
      · split
        next x hx =>
          have hno := h x hx
          simp [isRestartReply]
          tauto
        · rfl
    change execRestartTakesEffect s = _
    unfold execRestartTakesEffect
    rw [hstays]
    rfl
  case stage =>
    intro fine valid classes cells i held life k0 k1 len n d3 d2 d1 d0 h1 h0 l1 l0 flags s3 s2 s1 s0 c octets ho hread
      hheld hlife hi hvalid
    subst hheld hlife
    have hfound := stageFound_of_octets ho hread
    by_cases hkey : k0 = 0x46#8 ∧ k1 = (if fine then 0x32#8 else 0x31#8) ∧ len = 7#8 ∧ octetSum octets = 0#8
    · rw [if_pos hkey] at hfound
      rw [restoreStage_some hfound hi]
      obtain ⟨hk0, hk1, hlen, hsum⟩ := hkey
      refine ite_congr (propext ?_) (fun _ => rfl) (fun _ => ?_)
      · rw [hvalid]
        exact ⟨fun h => ⟨hk0, hk1, hlen, hsum, h⟩, fun ⟨_, _, _, _, h⟩ => h⟩
      · cases fine <;> rfl
    · rw [if_neg hkey] at hfound
      rw [restoreStage_none hfound, if_neg]
      · cases fine <;> rfl
      · exact fun h => hkey ⟨(hvalid.mp h).1, (hvalid.mp h).2.1, (hvalid.mp h).2.2.1, (hvalid.mp h).2.2.2.1⟩
  case hours =>
    rintro cells k0 k1 len a b c d check octets rfl hread
    exact restoreRunHours_of_octets hread
  case items =>
    intro fine r seconds
    refine ⟨-octetSum ([0x46#8, if fine then 0x32#8 else 0x31#8, octet 7] ++ stageData r),
      -octetSum ([0x42#8, 0x48#8, octet 2] ++ nat32 seconds), _, _, rfl, ?_, ?_, rfl, ?_, ?_⟩
    · exact octetSum_check ([0x46#8, if fine then 0x32#8 else 0x31#8, octet 7] ++ stageData r)
    · rw [stageItem_eq]
      rfl
    · exact octetSum_check ([0x42#8, 0x48#8, octet 2] ++ nat32 seconds)
    · rw [runHourItem_eq]
      rfl
  case curve =>
    intro cells fits hfits
    have hrecord (points : List Nat) (h : CurveRecord cells points) : ∃ c, fits points c := by
      obtain ⟨hlen, hrange, -, c, hread, hsum⟩ := h
      exact ⟨c, (hfits points c).mpr ⟨hlen, hrange, hread, hsum⟩⟩
    refine ⟨fun points c h => ?_, fun h => ?_⟩
    · obtain ⟨hlen, hrange, hread, hsum⟩ := (hfits points c).mp h
      exact restoreCurve_of_record ⟨hlen, hrange, by simp [hlen], c, hread, hsum⟩
    · exact restoreCurve_builtIn fun points hp => (hrecord points hp).elim (h points)
  case classes =>
    intro cells fits hfits
    refine ⟨fun classes c h => ?_, fun h => ?_⟩
    · obtain ⟨hrange, hread, hsum⟩ := (hfits classes c).mp h
      refine restoreClasses_of_record ⟨fun i => ?_, by simp, c, ?_, hsum⟩
      · obtain ⟨hin, hcapacity, hslope⟩ := hrange i
        exact ⟨hin, classFits_of_inRange hin hcapacity hslope⟩
      · exact hread
    · refine restoreClasses_builtIn fun classes hc => ?_
      obtain ⟨hrange, -, c, hread, hsum⟩ := hc
      refine h classes c ((hfits classes c).mpr ⟨fun i => ?_, ?_, hsum⟩)
      · obtain ⟨hin, hcapacity, -, -, -, -, hslope, -⟩ := hrange i
        exact ⟨hin, hcapacity, hslope⟩
      · exact hread
  case restartStage =>
    rintro classes r derived rfl
    exact ⟨fun h => restartStage_missing h, fun h => restartStage_derived h⟩

end Sys2Proof.Machine

/-!
The zone line (Chapter 1): cycles, Polls and Node Messages (O7 to O9).
-/
namespace Sys2Proof.Machine

/-! ### A cycle start, the end of a Poll, of a gap and of a Node Message -/

section
variable {iu : Intake}

theorem cycleStartReached_idle {ms : Nat} (h : iu.phase = .idle) :
    cycleStartReached (some ms) iu = useFreeLine (some ms) (startCycle ms iu) := by
  unfold cycleStartReached
  simp only [h]

theorem cycleStartReached_other {interval : Option Nat} (h : iu.phase ≠ .idle ∨ interval = none) :
    cycleStartReached interval iu = iu := by
  unfold cycleStartReached
  split
  next hp => simp [hp] at h
  · rfl

theorem pollSent_poll {k left : Nat} (h : iu.phase = .poll k left) :
    pollSent iu = { iu with phase := .answer k ⟨.hunting, false, some 15, none⟩, sending := [], onWire := [] } := by
  unfold pollSent
  simp only [h]
  rfl

theorem pollSent_other (h : ∀ k left, iu.phase ≠ .poll k left) : pollSent iu = iu := by
  unfold pollSent
  split
  next k left hp => exact absurd hp (h k left)
  · rfl

theorem gapEnd_next {interval : Option Nat} {k left : Nat} {e : PollEntry} (h : iu.phase = .gap k left)
    (he : iu.pollList[k + 1]? = some e) : gapEnd interval iu = sendPoll (k + 1) e.address iu := by
  unfold gapEnd
  simp only [h, he]

theorem gapEnd_last {interval : Option Nat} {k left : Nat} (h : iu.phase = .gap k left)
    (he : iu.pollList[k + 1]? = none) : gapEnd interval iu = useFreeLine interval (endCycle iu) := by
  unfold gapEnd
  simp only [h, he]

theorem gapEnd_other {interval : Option Nat} (h : ∀ k left, iu.phase ≠ .gap k left) : gapEnd interval iu = iu := by
  unfold gapEnd
  split
  next k left hp => exact absurd hp (h k left)
  · rfl

theorem messageMayStart_free {m : NodeMessage} {rest : List NodeMessage} (h : iu.phase = .idle)
    (hdue : iu.startDue = false) (hdown : iu.down = m :: rest) :
    messageMayStart iu = { iu with
      phase := .message (zoneLineTime (messageFrame m.address m.data).length)
      sending := messageFrame m.address m.data, onWire := [corrected iu.polarity 0x74#8] } := by
  unfold messageMayStart
  rw [if_pos ⟨h, hdue⟩, startMessage_cons iu m rest hdown]

theorem messageMayStart_waits (h : iu.phase ≠ .idle ∨ iu.startDue = true ∨ iu.down = []) : messageMayStart iu = iu := by
  unfold messageMayStart
  split
  next hfree =>
    have hdown : iu.down = [] := by simpa [hfree] using h
    exact startMessage_nil iu hdown
  · rfl

theorem messageEnd_message {left : Nat} (h : iu.phase = .message left) :
    messageEnd iu = { iu with down := iu.down.tail, phase := .messageWait 5, sending := [], onWire := [] } := by
  unfold messageEnd
  simp only [h]
  rfl

theorem messageEnd_other (h : ∀ left, iu.phase ≠ .message left) : messageEnd iu = iu := by
  unfold messageEnd
  split
  next left hp => exact absurd hp (h left)
  · rfl

theorem messageWaitEnd_wait {interval : Option Nat} {left : Nat} (h : iu.phase = .messageWait left) :
    messageWaitEnd interval iu = useFreeLine interval { iu with phase := .idle } := by
  unfold messageWaitEnd
  simp only [h]

theorem messageWaitEnd_other {interval : Option Nat} (h : ∀ left, iu.phase ≠ .messageWait left) :
    messageWaitEnd interval iu = iu := by
  unfold messageWaitEnd
  split
  next left hp => exact absurd hp (h left)
  · rfl

end

/-- A command that acts on the Intake Unit alone. -/
theorem next_iu {s : State} {iu iu' : Intake} (h : iu = iu') :
    (.next { s with iu := iu } : Host.Outcome State Fault Refusal) = .next { s with iu := iu' } := by rw [h]

/-! ### The obligations -/

/-- Settles O7: the equations of a cycle start, and the check register bit by bit. -/
theorem cycleStart : Obligations.CycleStart := by
  unfold Obligations.CycleStart
  refine ⟨?start, fun p o => by cases p <;> rfl, fun bit hbit => ⟨rfl, fun octets o => ?bits⟩, by decide +kernel, ?poll,
    fun s => ?interval⟩
  case start =>
    rintro s ms timed pin rfl rfl
    refine ⟨fun hidle hms => ⟨fun e rest hlist => next_iu ?_, fun hlist hdown => next_iu ?_,
      fun m rest hlist hdown => next_iu ?_⟩, fun h => next_iu (cycleStartReached_other h)⟩
    · rw [hms, cycleStartReached_idle hidle, startCycle_cons _ _ _ _ hlist, useFreeLine_busy _ _ (by simp)]
      rfl
    · rw [hms, cycleStartReached_idle hidle, startCycle_nil _ _ hlist, useFreeLine_free _ _ rfl rfl, startMessage_nil]
      · rw [hidle]
        rfl
      · exact hdown
    · rw [hms, cycleStartReached_idle hidle, startCycle_nil _ _ hlist, useFreeLine_free _ _ rfl rfl,
        startMessage_cons (m := m) (rest := rest)]
      · rfl
      · exact hdown
  case bits =>
    have hb : bit = checkBit := by
      funext r b
      rw [hbit, checkBit_eq]
    rw [hb, checkOf_concat]
    rfl
  case poll =>
    rintro address check rfl
    rfl
  case interval =>
    unfold intervalNow cycleInterval
    cases s.mc.mode <;> cases s.mc.source <;> rfl

/-- Settles O8, an equation for each end of a Poll and of a gap. -/
theorem pollsFollowEachOther : Obligations.PollsFollowEachOther := by
  unfold Obligations.PollsFollowEachOther
  intro s
  exact ⟨fun k left h => next_iu (pollSent_poll h), fun h => next_iu (pollSent_other h),
    fun k left e h he => next_iu (gapEnd_next h he), fun k left h he => next_iu (gapEnd_last h he),
    fun h => next_iu (gapEnd_other h)⟩

/-- Settles O9: the three commands of a Node Message, and the use of the free line case by case. -/
theorem nodeMessages : Obligations.NodeMessages := by
  unfold Obligations.NodeMessages
  refine ⟨fun s => ⟨fun m rest h hdue hdown => next_iu (messageMayStart_free h hdue hdown),
    fun h => next_iu (messageMayStart_waits h), fun left h => next_iu ?_, fun h => next_iu (messageEnd_other h),
    fun left h => next_iu (messageWaitEnd_wait h), fun h => next_iu (messageWaitEnd_other h)⟩,
    fun interval iu hidle => ⟨?_, ?_, ?_, ?_, ?_⟩, fun interval iu h => useFreeLine_busy _ _ h, ?_⟩
  · rw [messageEnd_message h, List.drop_one]
  · rintro ms e rest rfl hdue hlist
    rw [useFreeLine_owed_cons ms iu e rest hidle hdue hlist, startCycle_cons _ _ _ _ hlist]
    rfl
  · rintro ms done rfl hdue hlist rfl
    rw [useFreeLine_owed_nil ms iu hidle hdue hlist, startCycle_nil _ _ hlist]
    refine ⟨fun hdown => ?_, fun m rest hdown => ?_⟩
    · rw [startMessage_nil]
      · rw [hidle]
        rfl
      · exact hdown
    · rw [startMessage_cons (m := m) (rest := rest)]
      · rfl
      · exact hdown
  · rintro rfl hdue
    exact useFreeLine_owed_none iu hidle hdue
  · intro m rest hdue hdown
    rw [useFreeLine_free interval iu hidle hdue, startMessage_cons iu m rest hdown]
  · intro hdue hdown
    rw [useFreeLine_free interval iu hidle hdue, startMessage_nil iu hdown]
  · rintro address data body check rfl rfl
    rfl

end Sys2Proof.Machine

/-!
Answer periods, the validation of frames, node records and polarity acquisition (O10 to O13).
-/
namespace Sys2Proof.Machine

/-! ### The close of an answer period, part by part -/

section
variable (u : Settings) (k : Nat) (heard : Bool) (o : PeriodOutcome) (iu : Intake)

/-- The polled address of a close, and the close as its liveness, its polarity and its counters. -/
theorem closePeriod_eq :
    ∃ address, (∀ e, iu.pollList[k]? = some e → e.address = address) ∧
      ∀ l p, l = settleLiveness u.nodeAddress address o iu → p = settlePolarity u.polarity heard o l.1 →
        closePeriod u k heard o iu = ({ p.1 with live := countOutcome o p.1.live, phase := .gap k 5 }, l.2 ++ p.2) := by
  unfold closePeriod
  cases h : iu.pollList[k]? with
  | none => exact ⟨0, by simp, by rintro l p rfl rfl; rfl⟩
  | some e => exact ⟨e.address, by simp, by rintro l p rfl rfl; rfl⟩

theorem settleLiveness_frame (unitNode address : Nat) :
    (settleLiveness unitNode address o iu).1 = { iu with nodes := (settleLiveness unitNode address o iu).1.nodes } := by
  unfold settleLiveness
  split
  · rfl
  · split <;> rfl

theorem polarityChanged_not_mem_settleLiveness (unitNode address : Nat) :
    Signal.notice .polarityChanged none ∉ (settleLiveness unitNode address o iu).2 := by
  unfold settleLiveness
  split
  · simp
  · split
    · split <;> simp
    · simp

variable {o}

theorem settlePolarity_fixed {setting : PolaritySetting} (h : setting ≠ .auto) :
    settlePolarity setting heard o iu = (iu, []) := if_neg h

theorem settlePolarity_valid (h : o = .duplicate ∨ ∃ stamp q fields m, o = .accepted stamp q fields m) :
    settlePolarity .auto heard o iu = ({ iu with badWindows := 0 }, []) := by
  rcases h with rfl | ⟨stamp, q, fields, m, rfl⟩ <;> rfl

theorem settlePolarity_silent (h : o = .noFrame ∨ o = .checkFail ∨ o = .stray) :
    settlePolarity .auto false o iu = (iu, []) := by
  rcases h with rfl | rfl | rfl <;> rfl

theorem settlePolarity_bad (h : o = .noFrame ∨ o = .checkFail ∨ o = .stray) (hb : iu.badWindows < 5) :
    settlePolarity .auto true o iu = ({ iu with badWindows := iu.badWindows + 1 }, []) := by
  rcases h with rfl | rfl | rfl <;> exact if_neg (c := 6 ≤ iu.badWindows + 1) (by omega)

theorem settlePolarity_flip (h : o = .noFrame ∨ o = .checkFail ∨ o = .stray) (hb : 5 ≤ iu.badWindows) :
    settlePolarity .auto true o iu =
      ({ iu with
          polarity := flipPolarity iu.polarity, badWindows := 0
          live := { iu.live with polarityFlips := iu.live.polarityFlips + 1#16 } },
        [.notice .polarityChanged none]) := by
  rcases h with rfl | rfl | rfl <;> exact if_pos (c := 6 ≤ iu.badWindows + 1) (by omega)

variable (o)

theorem settlePolarity_cases (setting : PolaritySetting) :
    (∃ bad, settlePolarity setting heard o iu = ({ iu with badWindows := bad }, []))
      ∨ settlePolarity setting heard o iu =
        ({ iu with
            polarity := flipPolarity iu.polarity, badWindows := 0
            live := { iu.live with polarityFlips := iu.live.polarityFlips + 1#16 } },
          [.notice .polarityChanged none]) := by
  by_cases hs : setting = .auto
  · subst hs
    by_cases hv : o = .noFrame ∨ o = .checkFail ∨ o = .stray
    · cases hh : heard with
      | false => exact .inl ⟨iu.badWindows, settlePolarity_silent iu hv⟩
      | true =>
        rcases Nat.lt_or_ge iu.badWindows 5 with hb | hb
        · exact .inl ⟨_, settlePolarity_bad iu hv hb⟩
        · exact .inr (settlePolarity_flip iu hv hb)
    · refine .inl ⟨0, settlePolarity_valid heard iu ?_⟩
      cases o <;> simp at hv ⊢
  · exact .inl ⟨iu.badWindows, settlePolarity_fixed heard iu hs⟩

end

theorem flipPolarity_eq (p : Polarity) : flipPolarity p = if p = .normal then .inverted else .normal := by
  cases p <;> rfl

/-- What a close counts (Table 1-5). -/
theorem countOutcome_counts (o : PeriodOutcome) (c : IntakeCounters) :
    (countOutcome o c).timeout = (if o = .noFrame then c.timeout + 1#16 else c.timeout)
      ∧ (countOutcome o c).checkFail = (if o = .checkFail then c.checkFail + 1#16 else c.checkFail)
      ∧ (countOutcome o c).stray = (if o = .stray then c.stray + 1#16 else c.stray)
      ∧ (countOutcome o c).duplicate = (if o = .duplicate then c.duplicate + 1#16 else c.duplicate)
      ∧ (∀ stamp q fields m, o = .accepted stamp q fields m →
        (countOutcome o c).accepted = c.accepted + 1#16
        ∧ (countOutcome o c).formMismatch = (if m then c.formMismatch + 1#16 else c.formMismatch))
      ∧ ((∀ stamp q fields m, o ≠ .accepted stamp q fields m) →
        (countOutcome o c).accepted = c.accepted ∧ (countOutcome o c).formMismatch = c.formMismatch) := by
  cases o with
  | accepted stamp q fields m =>
    refine ⟨rfl, rfl, rfl, rfl, fun _ _ _ _ h => ?_, fun h => absurd rfl (h stamp q fields m)⟩
    cases h
    exact ⟨rfl, rfl⟩
  | noFrame | checkFail | stray | duplicate => simp [countOutcome]

/-! ### Records of the polled node -/

section
variable {f : NodeRecord → NodeRecord} (hf : ∀ r, (f r).address = r.address)
include hf

theorem findNode_updateNode_same (a : Nat) (nodes : List NodeRecord) :
    findNode a (updateNode a f nodes) = (findNode a nodes).map f := by
  induction nodes with
  | nil => rfl
  | cons r rest ih =>
    by_cases h : r.address = a
    · simp [updateNode, findNode, h, hf]
    · simp [updateNode, findNode, h, ih]

theorem findNode_updateNode_other {a b : Nat} (hab : b ≠ a) (nodes : List NodeRecord) :
    findNode b (updateNode a f nodes) = findNode b nodes := by
  induction nodes with
  | nil => rfl
  | cons r rest ih =>
    by_cases h : r.address = a
    · have hb : r.address ≠ b := fun hb => hab (hb.symm.trans h)
      simp [updateNode, findNode, h, hf, hab.symm]
    · simp [updateNode, findNode, h, ih]

end

theorem missInto_eq (r : NodeRecord) :
    missInto r = { r with misses := min 3 (r.misses + 1), state := if r.misses < 2 then .missing else .lost } := by
  unfold missInto
  dsimp only
  by_cases h : r.misses < 2
  · rw [if_pos h, if_neg (by omega)]
  · rw [if_neg h, if_pos (by omega)]

/-- A close without an accepted reading, at the record polled and in what it delivers. -/
theorem settleLiveness_missed {o : PeriodOutcome} (h : o = .noFrame ∨ o = .checkFail ∨ o = .stray ∨ o = .duplicate)
    (unitNode : Nat) {address : Nat} {iu : Intake} {r : NodeRecord} (hr : findNode address iu.nodes = some r) :
    settleLiveness unitNode address o iu =
      ({ iu with nodes := updateNode address missInto iu.nodes },
        if (missInto r).state = r.state then []
        else (if (missInto r).state = .lost then [.notice .nodeLost (some (octet address))] else [])
          ++ [.nodeState address (missInto r).state]
          ++ (if (missInto r).state = .lost ∧ address = unitNode then [.unitState .lost] else [])) := by
  unfold settleLiveness
  rcases h with rfl | rfl | rfl | rfl <;> simp only [hr]

theorem settleLiveness_accepted (unitNode : Nat) {address : Nat} {stamp : Word} {q : Byte} {fields : Reading}
    {mismatch : Bool} {iu : Intake} {r : NodeRecord} (hr : findNode address iu.nodes = some r) :
    settleLiveness unitNode address (.accepted stamp q fields mismatch) iu =
      ({ iu with nodes := updateNode address (acceptInto stamp (some q) fields) iu.nodes },
        (if r.state = .lost then [.notice .nodeBack (some (octet address))] else [])
          ++ [.reading address stamp (some q) fields]) := by
  unfold settleLiveness
  simp only [hr]

/-- Settles O12: the liveness part of a close, for an accepted reading and for a miss. -/
theorem nodeRecords : Obligations.NodeRecords := by
  unfold Obligations.NodeRecords
  refine ⟨fun u k e heard stamp q fields mismatch r iu he hr => ?_, fun u k e heard o r iu he hr ho => ?_⟩
  · obtain ⟨address, haddress, hclose⟩ := closePeriod_eq u k heard (.accepted stamp q fields mismatch) iu
    obtain rfl := haddress e he
    rw [hclose _ _ rfl rfl, settleLiveness_accepted u.nodeAddress hr]
    by_cases hu : u.polarity = .auto
    · rw [hu, settlePolarity_valid _ _ (.inr ⟨_, _, _, _, rfl⟩), if_pos rfl, List.append_nil]
      rfl
    · rw [settlePolarity_fixed _ _ hu, if_neg hu, List.append_nil]
      rfl
  · obtain ⟨address, haddress, hclose⟩ := closePeriod_eq u k heard o iu
    obtain rfl := haddress e he
    have hkeep (r : NodeRecord) : (missInto r).address = r.address := rfl
    have hnodes : (closePeriod u k heard o iu).1.nodes = updateNode e.address missInto iu.nodes := by
      rw [hclose _ _ rfl rfl, settleLiveness_missed ho u.nodeAddress hr]
      rcases settlePolarity_cases heard o { iu with nodes := updateNode e.address missInto iu.nodes } u.polarity
        with ⟨bad, hp⟩ | hp <;> rw [hp]
    refine ⟨missInto r, missInto_eq r, ?_, fun a ha => ?_, ?_⟩
    · rw [hnodes, findNode_updateNode_same hkeep, hr]
      rfl
    · rw [hnodes, findNode_updateNode_other hkeep ha]
    · have hpol : ((settlePolarity u.polarity heard o (settleLiveness u.nodeAddress e.address o iu).1).2.filter
          (· != .notice .polarityChanged none)) = [] := by
        rcases settlePolarity_cases heard o (settleLiveness u.nodeAddress e.address o iu).1 u.polarity
          with ⟨bad, hp⟩ | hp <;> rw [hp] <;> rfl
      rw [hclose _ _ rfl rfl, List.filter_append, hpol, List.append_nil, List.filter_eq_self.mpr]
      · rw [settleLiveness_missed ho u.nodeAddress hr]
      · intro x hx
        simp only [bne_iff_ne]
        rintro rfl
        exact polarityChanged_not_mem_settleLiveness o iu _ _ hx

/-- Settles O13: the polarity part of a close by setting and outcome, and the counters. -/
theorem polarityAndCounts : Obligations.PolarityAndCounts := by
  unfold Obligations.PolarityAndCounts
  refine ⟨fun u k heard o iu after posted h => ?_, fun u k heard o iu => ?_⟩
  · obtain ⟨address, -, hclose⟩ := closePeriod_eq u k heard o iu
    have hl := settleLiveness_frame o iu u.nodeAddress address
    have hno := polarityChanged_not_mem_settleLiveness o iu u.nodeAddress address
    have hflips (c : IntakeCounters) : (countOutcome o c).polarityFlips = c.polarityFlips := by cases o <;> rfl
    rw [hclose _ _ rfl rfl] at h
    generalize settleLiveness u.nodeAddress address o iu = l at h hl hno
    rw [Prod.mk.injEq] at h
    obtain ⟨rfl, rfl⟩ := h
    have hpolarity : l.1.polarity = iu.polarity := by rw [hl]
    have hbad : l.1.badWindows = iu.badWindows := by rw [hl]
    have hlive : l.1.live = iu.live := by rw [hl]
    refine ⟨fun hu => ?_, fun hu hv => ?_, fun hu hv => ⟨fun hh => ?_, fun hh hb => ?_, fun hh hb => ?_⟩⟩
    · rw [settlePolarity_fixed _ _ hu]
      exact ⟨hpolarity, hbad, (hflips _).trans (by rw [hlive]), by simpa using hno⟩
    · rw [hu, settlePolarity_valid _ _ hv]
      exact ⟨hpolarity, rfl, (hflips _).trans (by rw [← hlive]), by simpa using hno⟩
    · rw [hu, hh, settlePolarity_silent _ hv]
      exact ⟨hpolarity, hbad, (hflips _).trans (by rw [hlive]), by simpa using hno⟩
    · rw [hu, hh, settlePolarity_bad _ hv (hbad ▸ hb)]
      exact ⟨hpolarity, by rw [← hbad], (hflips _).trans (by rw [← hlive]), by simpa using hno⟩
    · rw [hu, hh, settlePolarity_flip _ hv (hbad ▸ hb)]
      exact ⟨by rw [← hpolarity, ← flipPolarity_eq], rfl, (hflips _).trans (by rw [← hlive]), by simp⟩
  · obtain ⟨address, -, hclose⟩ := closePeriod_eq u k heard o iu
    have hl := settleLiveness_frame o iu u.nodeAddress address
    rw [hclose _ _ rfl rfl]
    generalize settleLiveness u.nodeAddress address o iu = l at hl ⊢
    obtain ⟨after, posted⟩ := l
    dsimp only at hl ⊢
    rw [hl]
    rcases settlePolarity_cases heard o { iu with nodes := after.nodes } u.polarity with ⟨bad, hp⟩ | hp
    · exact ⟨countOutcome o iu.live, by rw [hp], countOutcome_counts o iu.live⟩
    · exact ⟨countOutcome o { iu.live with polarityFlips := iu.live.polarityFlips + 1#16 }, by rw [hp],
        countOutcome_counts o { iu.live with polarityFlips := iu.live.polarityFlips + 1#16 }⟩

end Sys2Proof.Machine

/-!
Octets of an answer period and the validation of frames (O10, O11).
-/
namespace Sys2Proof.Machine

section
variable {settings : Settings} {iu : Intake} {k : Nat}

theorem zoneOctet_hunting {raw : Byte} {heard : Bool} {w f : Option Nat}
    (h : iu.phase = .answer k ⟨.hunting, heard, w, f⟩) :
    zoneOctet settings raw iu =
      ({ iu with phase :=
        if corrected iu.polarity raw = 0x71#8 ∨ corrected iu.polarity raw = 0x72#8 then
          .answer k ⟨.assembling iu.timeBase [corrected iu.polarity raw], true, w, some 12⟩
        else .answer k ⟨.hunting, true, w, f⟩ }, []) := by
  unfold zoneOctet
  simp only [h]
  split
  · rfl
  · rfl

theorem zoneOctet_joins {raw : Byte} {heard : Bool} {w f : Option Nat} {stamp : Word} {octets : List Byte}
    (h : iu.phase = .answer k ⟨.assembling stamp octets, heard, w, f⟩)
    (hlen : (octets ++ [corrected iu.polarity raw]).length < frameLength (octets ++ [corrected iu.polarity raw])) :
    zoneOctet settings raw iu =
      ({ iu with phase := .answer k ⟨.assembling stamp (octets ++ [corrected iu.polarity raw]), heard, w, f⟩ }, []) := by
  unfold zoneOctet
  simp only [h]
  exact if_neg (by omega)

theorem zoneOctet_completes {raw : Byte} {heard : Bool} {w f : Option Nat} {stamp : Word} {octets now : List Byte}
    {e : PollEntry} (h : iu.phase = .answer k ⟨.assembling stamp octets, heard, w, f⟩)
    (hnow : now = octets ++ [corrected iu.polarity raw]) (hlen : frameLength now ≤ now.length)
    (he : iu.pollList[k]? = some e) :
    zoneOctet settings raw iu =
      closePeriod settings k true (validateFrame e.address (findNode e.address iu.nodes) stamp now) iu := by
  subst hnow
  unfold zoneOctet
  simp only [h, he]
  exact if_pos hlen

theorem zoneOctet_other {raw : Byte} (h : ∀ k p, iu.phase ≠ .answer k p) : zoneOctet settings raw iu = (iu, []) := by
  unfold zoneOctet
  split
  next k p hp => exact absurd hp (h k p)
  · rfl

theorem windowExpiry_hunting {heard : Bool} {n : Nat} {f : Option Nat}
    (h : iu.phase = .answer k ⟨.hunting, heard, some n, f⟩) :
    windowExpiry settings iu = closePeriod settings k heard .noFrame iu := by
  unfold windowExpiry
  simp only [h]

theorem windowExpiry_assembling {heard : Bool} {n : Nat} {f : Option Nat} {stamp : Word} {octets : List Byte}
    (h : iu.phase = .answer k ⟨.assembling stamp octets, heard, some n, f⟩) :
    windowExpiry settings iu =
      ({ iu with phase := .answer k ⟨.assembling stamp octets, heard, none, f⟩ }, []) := by
  unfold windowExpiry
  simp only [h]

theorem windowExpiry_other (h : ∀ j hunt heard n f, iu.phase ≠ .answer j ⟨hunt, heard, some n, f⟩) :
    windowExpiry settings iu = (iu, []) := by
  unfold windowExpiry
  split
  next j p hp =>
    obtain ⟨hunt, heard, w, f⟩ := p
    cases w with
    | none => rfl
    | some n => exact absurd hp (h j hunt heard n f)
  · rfl

theorem frameExpiry_assembling {heard : Bool} {w : Option Nat} {n : Nat} {stamp : Word} {octets : List Byte}
    (h : iu.phase = .answer k ⟨.assembling stamp octets, heard, w, some n⟩) :
    frameExpiry settings iu = closePeriod settings k true .noFrame iu := by
  unfold frameExpiry
  simp only [h]

theorem frameExpiry_other (h : ∀ j heard w n stamp octets, iu.phase ≠ .answer j ⟨.assembling stamp octets, heard, w, some n⟩) :
    frameExpiry settings iu = (iu, []) := by
  unfold frameExpiry
  split
  next j p hp =>
    obtain ⟨hunt, heard, w, f⟩ := p
    cases f with
    | none => rfl
    | some n =>
      cases hunt with
      | hunting => rfl
      | assembling stamp octets => exact absurd hp (h j heard w n stamp octets)
  · rfl

end

theorem frameLength_concat (octets : List Byte) (o : Byte) :
    frameLength (octets ++ [o]) = if (octets ++ [o]).head? = some 0x72#8 then 20 else 12 := by
  cases octets <;> simp [frameLength]

/-- What an event at the Intake Unit that delivers nothing does. -/
theorem afterIntake_quiet {s : State} {r : Intake × List Signal} {iu : Intake} (h : r = (iu, [])) :
    (.next (afterIntake r s) : Host.Outcome State Fault Refusal) = .next { s with iu := iu } := by
  subst h
  rfl

theorem afterIntake_eq {s : State} {r r' : Intake × List Signal} (h : r = r') :
    (.next (afterIntake r s) : Host.Outcome State Fault Refusal) = .next (settle r'.2 { s with iu := r'.1 }) := by
  subst h
  rfl

/-- Settles O10: the equations of an octet and of the two expiries in an answer period. -/
theorem answerPeriods : Obligations.AnswerPeriods := by
  unfold Obligations.AnswerPeriods
  constructor
  · rintro s raw o rfl
    refine ⟨fun k heard w f h => afterIntake_quiet (zoneOctet_hunting h),
      fun k heard w f stamp octets h hlen => afterIntake_quiet (zoneOctet_joins h ?_),
      fun h => afterIntake_quiet (zoneOctet_other h)⟩
    rw [frameLength_concat]
    exact hlen
  · rintro s k e close he rfl
    exact ⟨fun raw now heard w f stamp octets h hnow hlen => afterIntake_eq (zoneOctet_completes h hnow hlen he),
      fun heard n f h => afterIntake_eq (windowExpiry_hunting h),
      fun heard n f stamp octets h => afterIntake_quiet (windowExpiry_assembling h),
      fun heard w n stamp octets h => afterIntake_eq (frameExpiry_assembling h),
      fun h => afterIntake_quiet (windowExpiry_other h), fun h => afterIntake_quiet (frameExpiry_other h)⟩

/-! ### Frames -/

section
variable {address : Nat} {record : Option NodeRecord} {stamp : Word} {octets : List Byte}

theorem validateFrame_checkFail (h : checkHolds octets = false) :
    validateFrame address record stamp octets = .checkFail := if_pos h

theorem validateFrame_stray (h : checkHolds octets = true) (ha : (octets.getD 1 0#8).toNat ≠ address) :
    validateFrame address record stamp octets = .stray := by
  unfold validateFrame
  rw [if_neg (by simp [h]), if_pos ha]

theorem validateFrame_duplicate {r : NodeRecord} (h : checkHolds octets = true)
    (ha : (octets.getD 1 0#8).toNat = address) (hs : r.lastSequence = some (octets.getD 2 0#8)) :
    validateFrame address (some r) stamp octets = .duplicate := by
  unfold validateFrame
  rw [if_neg (by simp [h]), if_neg (by simpa using ha)]
  exact if_pos hs

theorem validateFrame_accepted {r : NodeRecord} {fields : Reading} (h : checkHolds octets = true)
    (ha : (octets.getD 1 0#8).toNat = address) (hs : r.lastSequence ≠ some (octets.getD 2 0#8))
    (hf : readingOfFrame octets = some fields) :
    validateFrame address (some r) stamp octets =
      .accepted stamp (octets.getD 2 0#8) (takeForm r.form (octets.getD 0 0#8 == 0x72#8) fields).1
        (takeForm r.form (octets.getD 0 0#8 == 0x72#8) fields).2 := by
  unfold validateFrame
  rw [if_neg (by simp [h]), if_neg (by simpa using ha)]
  dsimp only
  rw [if_neg (show ¬ (some r).bind NodeRecord.lastSequence = _ from hs)]
  simp only [hf]

end

/-- Settles O11: R9 test by test, the decoding of the fields, and the check of a received frame. -/
theorem frameValidation : Obligations.FrameValidation := by
  unfold Obligations.FrameValidation
  refine ⟨fun address r stamp octets fields hf => ⟨fun h => validateFrame_checkFail h,
    fun h ha => validateFrame_stray h ha, fun h ha hs => validateFrame_duplicate h ha hs, fun h ha hs => ?_⟩,
    ⟨fun x => rfl, fun x => rfl, ?_, ?_⟩, fun body c1 c0 => ?_⟩
  · rw [validateFrame_accepted h ha hs hf]
    have hlong : (octets.getD 0 0#8 == 0x72#8) = decide (octets.getD 0 0#8 = 0x72#8) := rfl
    rw [hlong]
    cases r.form <;> cases decide (octets.getD 0 0#8 = 0x72#8) <;> rfl
  · intro address sequence status c1 c0 t h p
    simp [octets16, readingOfFrame]
  · intro address sequence status spare1 spare0 c1 c0 t h p q d c
    simp [octets16, readingOfFrame]
  · unfold checkHolds
    have hlen : (body ++ [c1, c0]).length - 2 = body.length := by simp
    rw [hlen, List.drop_left, List.take_left, beq_iff_eq]
    constructor
    · intro h
      have hboth : c1 = hi (checkOf body) ∧ c0 = lo (checkOf body) := by simpa [octets16] using h
      rw [hboth.1, hboth.2]
      exact (half_hi_lo _).symm
    · intro h
      rw [h]
      exact (octets16_half c1 c0).symm

end Sys2Proof.Machine

/-!
Zones and demand (Chapter 2): readings and node states at the zones, the demand fields, the drying call, the openings and
the targets (O14 to O17, O19).
-/
namespace Sys2Proof.Machine

theorem mem_toList_iff {α : Type} (v : Six α) (x : α) : x ∈ v.toList ↔ ∃ i, v.get i = x := by
  constructor
  · intro h
    simp only [Six.toList, List.mem_cons, List.not_mem_nil, or_false] at h
    rcases h with h | h | h | h | h | h
    exacts [⟨0, h.symm⟩, ⟨1, h.symm⟩, ⟨2, h.symm⟩, ⟨3, h.symm⟩, ⟨4, h.symm⟩, ⟨5, h.symm⟩]
  · rintro ⟨i, rfl⟩
    match i with
    | 0 | 1 | 2 | 3 | 4 | 5 => simp [Six.get, Six.toList]

theorem six_any_iff {α : Type} (p : α → Bool) (v : Six α) : v.toList.any p = true ↔ ∃ i, p (v.get i) = true := by
  simp [List.any_eq_true, mem_toList_iff]

/-! ### Readings and node states at the zones -/

theorem namesNode_iff (address : Nat) (z : Zone) : namesNode address z = true ↔ z.entry.node = address ∧ address ≠ 0 := by
  simp only [namesNode, Bool.and_eq_true, beq_iff_eq, bne_iff_ne]
  exact ⟨fun ⟨h, h0⟩ => ⟨h, h ▸ h0⟩, fun ⟨h, h0⟩ => ⟨h, h ▸ h0⟩⟩

theorem anyNames_iff (address : Nat) (zones : Six Zone) :
    anyNames address zones = true ↔ ∃ i, (zones.get i).entry.node = address ∧ address ≠ 0 := by
  rw [anyNames, six_any_iff]
  exact exists_congr fun i => namesNode_iff _ _

theorem optOctet_eq (x : Option Byte) : optOctet x = x.getD 0xFF#8 := by cases x <;> rfl
theorem readingNat16_eq (x : Option Nat) : readingNat16 x = (x.map nat16).getD [0x7F#8, 0xFF#8] := by cases x <;> rfl
theorem readingInt16_eq (x : Option Int) : readingInt16 x = (x.map int16).getD [0x7F#8, 0xFF#8] := by cases x <;> rfl

/-- Settles O14: an accepted reading at the zones, the deliveries it makes, and the unit node's reports at the units. -/
theorem readingDelivery : Obligations.ReadingDelivery := by
  unfold Obligations.ReadingDelivery
  refine ⟨fun address stamp q fields s => ⟨fun i => ?zone, ⟨_, rfl⟩, ?deliveries, ?relay⟩, ?unitReading, ?reports⟩
  case zone =>
    change (s.dmu.zones.map (zoneReading address stamp fields)).get i = _
    rw [Six.get_map]
    exact if_congr (namesNode_iff address _) rfl rfl
  case deliveries =>
    change (if anyNames address s.dmu.zones then [Signal.demandUpdate] else []) ++ _ ++ _ = _
    rw [if_congr (anyNames_iff address s.dmu.zones) rfl rfl]
  case relay => simp only [relayPayload, readingOctets, optOctet_eq, readingNat16_eq, readingInt16_eq, boolCode]
  case unitReading =>
    rintro stamp fields s h r rfl rfl
    rfl
  case reports =>
    rintro s cleared rfl
    refine ⟨?_, ?_, ?_⟩
    · rintro r rfl
      rfl
    · rintro state r hstate rfl
      change routeUnitState state s = _
      unfold routeUnitState
      rw [if_neg hstate]
      rfl
    · rintro r zones rfl hzones
      have hz : s.dmu.zones.map zoneLineReset = zones := by
        apply Six.ext_get
        intro i
        rw [Six.get_map, hzones]
        rfl
      rw [← hz]
      rfl

theorem zoneNodeState_other {holdTime address : Nat} {now : Word} {state : NodeState} {z : Zone}
    (h : ¬ (z.entry.node = address ∧ address ≠ 0) ∨ z.sample ≠ .fresh) :
    zoneNodeState holdTime now address state z = z := by
  refine if_neg fun ⟨hn, hs, _⟩ => ?_
  rcases h with h | h
  · exact h ((namesNode_iff _ _).mp hn)
  · exact h hs

theorem zoneNodeState_fresh {holdTime address : Nat} {now : Word} {state : NodeState} {z : Zone}
    (hn : z.entry.node = address ∧ address ≠ 0) (hs : z.sample = .fresh) (hstate : state ≠ .live) :
    zoneNodeState holdTime now address state z =
      if withinHold holdTime now z.lastAccept then { z with sample := .held, holdExpiry := holdExpiryOf holdTime z }
      else { z with sample := .stale, holdExpiry := none } :=
  if_pos ⟨(namesNode_iff _ _).mpr hn, hs, hstate⟩

/-- Settles O15: the hold expiry, and a node's state at the zones that name it. -/
theorem sampleStates : Obligations.SampleStates := by
  unfold Obligations.SampleStates
  refine ⟨fun i s => ⟨fun h => if_pos h, fun h => if_neg h⟩, ?_⟩
  rintro address state i s z z' hold rfl rfl rfl hstate
  have hz : (route (.nodeState address state) s).1.dmu.zones.get i
      = zoneNodeState s.mc.settings.holdTime s.iu.timeBase address state (s.dmu.zones.get i) := Six.get_map _ _ _
  rw [hz]
  refine ⟨fun hn hs => ?_, fun h => ?_, ?_⟩
  · rw [zoneNodeState_fresh hn hs hstate]
    refine ⟨fun t ht hlt => ?_, fun t ht hle => ?_, fun hnone => ?_⟩
    · rw [ht, withinHold_some, if_pos (by simpa using hlt)]
      simp [holdExpiryOf, ht, after]
    · rw [ht, withinHold_some, if_neg (by simpa using hle)]
    · rw [hnone, if_neg (by simp [withinHold])]
  · exact zoneNodeState_other (by tauto)
  · exact if_congr (anyNames_iff address s.dmu.zones) rfl rfl

/-! ### The demand fields -/

section
variable (mc : ModeControl) (dampers : Six Damper) (dmu : Demand)

theorem recompute_zone (i : Fin 6) :
    (recompute mc dampers dmu).zones.get i =
      zoneOpening (decide (0 < (recompute mc dampers dmu).largest)) (dampers.get i).entry
        (zoneDemands dmu.filterMissing dmu.dryingActive (dmu.zones.get i)) := by
  simp [recompute]

end

section
variable {missing active : Bool} {z : Zone}

theorem evaluated_iff (x : SampleState) : evaluated x = true ↔ x = .fresh ∨ x = .held := by cases x <;> simp [evaluated]

theorem zoneDemands_evaluated (h : evaluated z.sample = true) :
    zoneDemands missing active z =
      { z with
        dPm := cleaningDemand missing z.entry z.pm25
        err := dryingError z.entry z.rh
        dRh := dryingDemand active z.entry (dryingError z.entry z.rh)
        d := if z.entry.enabled then
            max (cleaningDemand missing z.entry z.pm25) (dryingDemand active z.entry (dryingError z.entry z.rh))
          else 0 } := if_pos h

theorem zoneDemands_other (h : evaluated z.sample = false) :
    zoneDemands missing active z = { z with dPm := 0, err := none, dRh := 0, d := 0 } := if_neg (by simp [h])

theorem zoneDemands_sample : (zoneDemands missing active z).sample = z.sample
    ∧ (zoneDemands missing active z).entry = z.entry ∧ (zoneDemands missing active z).pm25 = z.pm25
    ∧ (zoneDemands missing active z).rh = z.rh ∧ (zoneDemands missing active z).temperature = z.temperature
    ∧ (zoneDemands missing active z).lastAccept = z.lastAccept ∧ (zoneDemands missing active z).holdExpiry = z.holdExpiry := by
  cases h : evaluated z.sample
  · rw [zoneDemands_other h]
    simp
  · rw [zoneDemands_evaluated h]
    simp

theorem dryingDemand_some (e : ZoneEntry) (h : Nat) :
    dryingDemand active e (some ((h : Int) - e.rhTarget)) =
      if e.drying = true ∧ e.rhTarget < h ∧ active = true then min 1000 ((h - e.rhTarget) * 10) else 0 := by
  have hnum : (((h : Int) - e.rhTarget) * 10).toNat = (h - e.rhTarget) * 10 := by omega
  have hpos : (0 < (h : Int) - e.rhTarget) ↔ e.rhTarget < h := by omega
  unfold dryingDemand
  simp only [hnum, hpos]
  exact if_congr (by tauto) rfl rfl

end

/-- Settles O16, by the sample state of the zone. -/
theorem demandFields : Obligations.DemandFields := by
  unfold Obligations.DemandFields
  rintro i s z z' rfl rfl
  rw [route_demandUpdate_dmu, recompute_zone]
  generalize s.dmu.zones.get i = z
  refine ⟨?kept, fun h => ?other, fun h => ?evaluated⟩
  case kept =>
    obtain ⟨h1, h2, h3, h4, h5, h6, h7⟩ :=
      zoneDemands_sample (missing := s.dmu.filterMissing) (active := s.dmu.dryingActive) (z := z)
    exact ⟨h2, h1, h3, h4, h5, h6, h7⟩
  case other =>
    have hev : evaluated z.sample = false := by rcases h with h | h <;> simp [h, evaluated]
    rw [zoneDemands_other hev]
    exact ⟨rfl, rfl, rfl, rfl⟩
  case evaluated =>
    rw [zoneDemands_evaluated ((evaluated_iff _).mpr h)]
    refine ⟨fun hp => ?_, fun p hp hle => ?_, fun p hp hlt hm => ?_, fun hr => ?_, fun r hr => ?_, rfl⟩
    · change cleaningDemand s.dmu.filterMissing z.entry z.pm25 = 0
      rw [hp]
      rfl
    · change cleaningDemand s.dmu.filterMissing z.entry z.pm25 = 0
      rw [hp]
      exact if_pos hle
    · change cleaningDemand s.dmu.filterMissing z.entry z.pm25 = _
      rw [hp]
      exact if_neg (by simp [hm, hlt])
    · change dryingError z.entry z.rh = none ∧ dryingDemand s.dmu.dryingActive z.entry (dryingError z.entry z.rh) = 0
      rw [hr]
      exact ⟨rfl, rfl⟩
    · change dryingError z.entry z.rh = some ((r : Int) - z.entry.rhTarget)
        ∧ dryingDemand s.dmu.dryingActive z.entry (dryingError z.entry z.rh) = _
      rw [hr]
      exact ⟨rfl, dryingDemand_some z.entry r⟩

/-! ### The drying call (R38) -/

theorem le_maxError_iff (c : Int) (x y : Option Int) :
    (∃ e, maxError x y = some e ∧ c ≤ e) ↔ (∃ e, x = some e ∧ c ≤ e) ∨ ∃ e, y = some e ∧ c ≤ e := by
  cases x <;> cases y <;> simp [maxError]

/-- The largest error reaches a threshold when one of the errors does. -/
theorem le_foldl_maxError_iff (c : Int) (errors : List (Option Int)) (x : Option Int) :
    (∃ e, errors.foldl maxError x = some e ∧ c ≤ e) ↔
      (∃ e, x = some e ∧ c ≤ e) ∨ ∃ y ∈ errors, ∃ e, y = some e ∧ c ≤ e := by
  induction errors generalizing x with
  | nil => simp
  | cons y rest ih =>
    rw [List.foldl_cons, ih, le_maxError_iff]
    simp only [List.mem_cons, exists_eq_or_imp, or_assoc]

theorem le_largestError_iff (c : Int) (zones : Six Zone) :
    (∃ e, largestError zones = some e ∧ c ≤ e) ↔ ∃ i e, qualifyingError (zones.get i) = some e ∧ c ≤ e := by
  unfold largestError
  rw [le_foldl_maxError_iff]
  simp only [List.mem_map, mem_toList_iff]
  constructor
  · rintro (⟨e, he, -⟩ | ⟨y, ⟨z, ⟨i, rfl⟩, rfl⟩, e, he, hc⟩)
    · cases he
    · exact ⟨i, e, he, hc⟩
  · rintro ⟨i, e, he, hc⟩
    exact .inr ⟨_, ⟨_, ⟨i, rfl⟩, rfl⟩, e, he, hc⟩

theorem qualifyingError_zoneDemands (missing active : Bool) (z : Zone) (e : Int) :
    qualifyingError (zoneDemands missing active z) = some e ↔
      z.entry.enabled = true ∧ z.entry.drying = true ∧ (z.sample = .fresh ∨ z.sample = .held)
        ∧ ∃ h : Nat, z.rh = some h ∧ e = (h : Int) - z.entry.rhTarget := by
  unfold qualifyingError
  cases hev : evaluated z.sample
  · rw [zoneDemands_other hev]
    simp [← evaluated_iff, hev]
  · rw [zoneDemands_evaluated hev]
    have herr : dryingError z.entry z.rh = some e ↔ ∃ h : Nat, z.rh = some h ∧ e = (h : Int) - z.entry.rhTarget := by
      cases z.rh <;> simp [dryingError, eq_comm]
    simp only [hev, ← evaluated_iff, and_true, true_and, Option.ite_none_right_eq_some, herr, and_assoc]

theorem nextCall_on_iff (u : Settings) (largest : Option Int) :
    nextCall u false largest = true ↔ ∃ e, largest = some e ∧ u.callOn ≤ e := by
  cases largest <;> simp [nextCall]

theorem nextCall_off_iff (u : Settings) (largest : Option Int) :
    nextCall u true largest = false ↔ ¬ ∃ e, largest = some e ∧ u.callOff + 1 ≤ e := by
  cases largest <;> simp [nextCall]

/-! ### The deliveries of a demand update -/

theorem mem_targetDeliveries (mode : UnitMode) (zones : Six Zone) (x : Signal) :
    x ∈ targetDeliveries mode zones ↔
      (mode = .run ∨ mode = .quiet) ∧ ∃ i t, (zones.get i).target = some t ∧ x = .damperTarget i t := by
  have hmode : runMode mode = true ↔ mode = .run ∨ mode = .quiet := by cases mode <;> simp [runMode]
  unfold targetDeliveries
  split
  next hrun =>
    simp only [hmode.mp hrun, true_and, List.mem_flatMap]
    constructor
    · rintro ⟨i, -, hx⟩
      split at hx
      next t ht => exact ⟨i, t, ht, List.mem_singleton.mp hx⟩
      · cases hx
    · rintro ⟨i, t, ht, rfl⟩
      exact ⟨i, by fin_cases i <;> decide, by simp [ht]⟩
  next hrun => simp [mt hmode.mpr hrun]

theorem mem_updateDeliveries (mode : UnitMode) (before dmu : Demand) (x : Signal) :
    x ∈ updateDeliveries mode before dmu ↔
      x = .demandedDuty dmu.demandedDuty ∨ x ∈ targetDeliveries mode dmu.zones ∨ x = .largestDemand dmu.largest
        ∨ (before.call ≠ dmu.call ∧ x = .dryingCall dmu.call) := by
  unfold updateDeliveries
  by_cases h : before.call = dmu.call <;> simp [h]

/-- Settles O17: the largest error against the two thresholds, and the call among the deliveries. -/
theorem dryingCall : Obligations.DryingCall := by
  unfold Obligations.DryingCall
  rintro s qualifies rfl
  simp only [route_demandUpdate_dmu, route_demandUpdate_deliveries]
  have hcall : (recompute s.mc s.dp.dampers s.dmu).call = nextCall s.mc.settings s.dmu.call
      (largestError (s.dmu.zones.map (zoneDemands s.dmu.filterMissing s.dmu.dryingActive))) := rfl
  refine ⟨fun hoff => ?on, fun hon => ?off, fun on => ?delivered, fun on hnow hchanged => ?last⟩
  case on =>
    rw [hcall, hoff, nextCall_on_iff, le_largestError_iff]
    simp only [Six.get_map, qualifyingError_zoneDemands]
  case off =>
    rw [hcall, hon, nextCall_off_iff, le_largestError_iff]
    simp only [Six.get_map, qualifyingError_zoneDemands, not_exists, not_and, Int.add_one_le_iff, not_lt]
  case delivered =>
    rw [mem_updateDeliveries, mem_targetDeliveries]
    simp
    grind
  case last =>
    unfold updateDeliveries
    rw [if_neg (by rw [hnow]; exact hchanged.symm), hnow, List.getLast?_append]
    rfl

/-! ### The openings and the targets (R40, R41) -/

theorem recompute_someZone_iff (mc : ModeControl) (dampers : Six Damper) (dmu : Demand) :
    0 < (recompute mc dampers dmu).largest ↔ ∃ j, 0 < ((recompute mc dampers dmu).zones.get j).d := by
  rw [recompute_largest]
  constructor
  · intro h
    obtain ⟨j, hj⟩ := exists_eq_largestOf (recompute mc dampers dmu).zones
    exact ⟨j, hj ▸ h⟩
  · rintro ⟨j, hj⟩
    exact hj.trans_le (le_largestOf _ j)

/-- Settles O19, by the zone after the update. -/
theorem openingsAndTargets : Obligations.OpeningsAndTargets := by
  unfold Obligations.OpeningsAndTargets
  rintro i s z' e rfl rfl
  simp only [route_demandUpdate_dmu, route_demandUpdate_deliveries]
  have hz := recompute_zone s.mc s.dp.dampers s.dmu i
  have hsome := recompute_someZone_iff s.mc s.dp.dampers s.dmu
  generalize zoneDemands s.dmu.filterMissing s.dmu.dryingActive (s.dmu.zones.get i) = z at hz
  refine ⟨fun h => ?closed, fun h hd => ?opened, fun h hd => ?rest, fun h => ?fitted, fun h => ?unfitted, fun t => ?delivered⟩
  case closed =>
    rw [hz] at h ⊢
    exact if_pos h
  case opened =>
    rw [hz] at h ⊢
    simp [zoneOpening, openingOf, show z.entry.enabled = true from h, hsome.mpr hd]
  case rest =>
    have hnone : ¬ 0 < (recompute s.mc s.dp.dampers s.dmu).largest := by
      rw [hsome]
      simp [hd]
    rw [hz] at h ⊢
    simp [zoneOpening, openingOf, show z.entry.enabled = true from h, hnone]
  case fitted =>
    rw [hz]
    exact if_pos h
  case unfitted =>
    rw [hz]
    exact if_neg (by simp [h])
  case delivered =>
    rw [mem_updateDeliveries, mem_targetDeliveries]
    simp

end Sys2Proof.Machine

/-!
The blower (Chapter 3): the ramp tick, tach and captures, and the timers (O22, O24, O25).
-/
namespace Sys2Proof.Machine

/-! ### The stall timer, the duty and the state of a ramp tick -/

theorem watchStall_eq (bd : Blower) :
    watchStall bd = { bd with
      stallLeft := if bd.state = .running ∧ bd.speed = 0 ∧ (150 ≤ bd.applied ∨ bd.stallLeft = some 0) then
          some (bd.stallLeft.getD 1000)
        else none } := by
  have hiff : (stallConditions bd || stallExpired bd) = true ↔
      bd.state = .running ∧ bd.speed = 0 ∧ (150 ≤ bd.applied ∨ bd.stallLeft = some 0) := by
    simp only [stallConditions, stallExpired, Bool.or_eq_true, Bool.and_eq_true, beq_iff_eq, decide_eq_true_eq]
    tauto
  unfold watchStall
  by_cases h : bd.state = .running ∧ bd.speed = 0 ∧ (150 ≤ bd.applied ∨ bd.stallLeft = some 0)
  · rw [if_pos (hiff.mpr h), if_pos h]
    split
    next n hn => rw [hn, Option.getD_some, ← hn]
    next hn => rw [hn, Option.getD_none]
  · rw [if_neg (mt hiff.mp h), if_neg h]

theorem bandFor_eq (applied : Nat) (profile : List Band) :
    bandFor applied profile =
      ((profile.find? fun b => decide (applied < b.ceiling)).or profile.getLast?).getD ⟨0, 0, 0⟩ := by
  induction profile with
  | nil => rfl
  | cons b rest ih =>
    cases rest with
    | nil => cases h : decide (applied < b.ceiling) <;> simp [bandFor, h]
    | cons c rest =>
      by_cases h : applied < b.ceiling
      · simp [bandFor, h]
      · have hb : bandFor applied (b :: c :: rest) = bandFor applied (c :: rest) := if_neg h
        rw [hb, ih, List.getLast?_cons_cons, List.find?_cons_of_neg (a := b) (by simpa using h)]

section
variable {mc : ModeControl} {l : Nat} {bd : Blower}

theorem moveDuty_cut (h : l < bd.applied) : moveDuty mc l bd = { bd with applied := l, cuts := bd.cuts + 1#16 } :=
  if_pos h

theorem moveDuty_step (h : bd.applied ≤ l) (hs : bd.state = .stopped ∨ bd.state = .running) :
    moveDuty mc l bd =
      { bd with applied := rampStep (bandFor bd.applied (profileInUse mc bd)) (min bd.staged l) bd.applied } := by
  unfold moveDuty
  rw [if_neg (by omega), if_pos hs]

theorem moveDuty_stays (h : bd.applied ≤ l) (hs : ¬ (bd.state = .stopped ∨ bd.state = .running)) :
    moveDuty mc l bd = bd := by
  unfold moveDuty
  rw [if_neg (by omega), if_neg hs]

theorem moveDuty_frame :
    moveDuty mc l bd = { bd with applied := (moveDuty mc l bd).applied, cuts := (moveDuty mc l bd).cuts } := by
  rcases Nat.lt_or_ge l bd.applied with h | h
  · rw [moveDuty_cut h]
  · by_cases hs : bd.state = .stopped ∨ bd.state = .running
    · rw [moveDuty_step h hs]
    · rw [moveDuty_stays h hs]

theorem settleBlower_starts {mode : UnitMode} (hs : bd.state = .stopped) (h : 0 < bd.applied) :
    settleBlower mode bd = { bd with state := .running, healthyLeft := some 60000 } := by
  unfold settleBlower
  simp only [hs, if_pos h]

theorem settleBlower_stops {mode : UnitMode} (hs : bd.state = .running) (h : bd.applied = 0) :
    settleBlower mode bd = { bd with state := .stopped, finish := runEndCause mode, healthyLeft := none } := by
  unfold settleBlower
  simp only [hs, if_pos h]

theorem settleBlower_stays {mode : UnitMode} (h1 : ¬ (bd.state = .stopped ∧ 0 < bd.applied))
    (h2 : ¬ (bd.state = .running ∧ bd.applied = 0)) : settleBlower mode bd = bd := by
  unfold settleBlower
  split
  next hs => exact if_neg fun h => h1 ⟨hs, h⟩
  next hs => exact if_neg fun h => h2 ⟨hs, h⟩
  · rfl

end

theorem allowanceOf_eq {fixedShare l : Nat} {d : Six Damper}
    (h : (l : Int) = min 1000 (max 0 ((fixedShare : Int) + shareSum d - pendingSum d))) : allowanceOf fixedShare d = l := by
  unfold allowanceOf
  omega

/-- The blower as the ramp step finds it: the allowance recorded and the next tick 100 ms away. -/
def withAllowance (l : Nat) (bd : Blower) : Blower := { bd with allowance := l, rampLeft := 100 }

theorem blowerTick_eq (mc : ModeControl) (d : Six Damper) (bd : Blower) (l : Nat) (settled : Blower)
    (hl : allowanceOf mc.settings.fixedShare d = l)
    (hs : watchStall (settleBlower mc.mode (moveDuty mc l (withAllowance l bd))) = settled) :
    blowerTick mc d bd = (settled, appliedDelivery bd.applied settled.applied
      ++ (if 0 < pendingSum d ∧ settled.applied ≤ l then [.limitMet settled.applied (pendingSum d)] else [])) := by
  subst hl hs
  rfl

theorem appliedDelivery_eq (before now : Nat) :
    appliedDelivery before now = if now = before then [] else [.appliedDuty now] := if_congr eq_comm rfl rfl

theorem settleBlower_frame (mode : UnitMode) (bd : Blower) :
    settleBlower mode bd = { bd with
      state := (settleBlower mode bd).state
      finish := (settleBlower mode bd).finish
      healthyLeft := (settleBlower mode bd).healthyLeft } := by
  unfold settleBlower
  split
  · split <;> rfl
  · split <;> rfl
  · rfl

theorem blowerTick_moved (mc : ModeControl) (d : Six Damper) (bd : Blower) {l : Nat}
    (hl : allowanceOf mc.settings.fixedShare d = l) :
    (blowerTick mc d bd).1.applied = (moveDuty mc l (withAllowance l bd)).applied
      ∧ (blowerTick mc d bd).1.cuts = (moveDuty mc l (withAllowance l bd)).cuts
      ∧ (blowerTick mc d bd).1.allowance = l ∧ (blowerTick mc d bd).1.rampLeft = 100 := by
  rw [blowerTick_eq mc d bd l _ hl rfl, watchStall_eq, settleBlower_frame, moveDuty_frame]
  exact ⟨rfl, rfl, rfl, rfl⟩

/-- Settles O22: the tick as a move of the duty, the settling of the state and the watch of the stall timer. -/
theorem rampTick : Obligations.RampTick := by
  unfold Obligations.RampTick
  refine ⟨?duty, ?settling, fun bd => ⟨rfl, fun h => ?_, fun h => ?_, fun h => ?_⟩⟩
  case duty =>
    rintro s L target profile band r hL rfl - rfl rfl rfl
    have hl := allowanceOf_eq hL
    have hmoved := blowerTick_moved s.mc s.dp.dampers s.bd hl
    rw [← bandFor_eq]
    obtain ⟨happlied, hcuts, hallowance, hramp⟩ := hmoved
    rw [happlied, hcuts]
    refine ⟨rfl, hallowance, hramp, fun h => ?_, fun h => ?_, fun h hs => ?_, fun h hs => ?_⟩
    · rw [moveDuty_cut (bd := withAllowance L s.bd) h]
      exact ⟨rfl, rfl⟩
    · by_cases hs : s.bd.state = .stopped ∨ s.bd.state = .running
      · rw [moveDuty_step (bd := withAllowance L s.bd) h hs]
        rfl
      · rw [moveDuty_stays (bd := withAllowance L s.bd) h hs]
        rfl
    · rw [moveDuty_step (bd := withAllowance L s.bd) h hs]
      rfl
    · rw [moveDuty_stays (bd := withAllowance L s.bd) h (by rcases hs with hs | hs <;> simp [withAllowance, hs])]
      rfl
  case settling =>
    intro mc d bd after deliveries h
    obtain ⟨a, c, hm⟩ : ∃ a c, moveDuty mc (allowanceOf mc.settings.fixedShare d)
        (withAllowance (allowanceOf mc.settings.fixedShare d) bd)
          = { withAllowance (allowanceOf mc.settings.fixedShare d) bd with applied := a, cuts := c } :=
      ⟨_, _, moveDuty_frame⟩
    rw [blowerTick_eq mc d bd _ _ rfl rfl, hm, watchStall_eq, Prod.mk.injEq] at h
    obtain ⟨rfl, rfl⟩ := h
    by_cases hstart : bd.state = .stopped ∧ 0 < a
    · rw [settleBlower_starts (bd := { withAllowance _ bd with applied := a, cuts := c }) hstart.1 hstart.2]
      exact ⟨fun _ _ => ⟨rfl, rfl, rfl⟩, fun hs => by simp [hstart.1] at hs, fun h => (h hstart).elim,
        ⟨rfl, rfl, rfl, rfl, rfl, rfl, rfl, rfl, rfl⟩, rfl, congrArg (· ++ _) (appliedDelivery_eq _ _)⟩
    · by_cases hstop : bd.state = .running ∧ a = 0
      · rw [settleBlower_stops (bd := { withAllowance _ bd with applied := a, cuts := c }) hstop.1 hstop.2]
        exact ⟨fun hs => by simp [hstop.1] at hs, fun _ _ => ⟨rfl, rfl, by cases mc.mode <;> rfl⟩,
          fun _ h => (h hstop).elim, ⟨rfl, rfl, rfl, rfl, rfl, rfl, rfl, rfl, rfl⟩, rfl,
          congrArg (· ++ _) (appliedDelivery_eq _ _)⟩
      · rw [settleBlower_stays (bd := { withAllowance _ bd with applied := a, cuts := c }) hstart hstop]
        exact ⟨fun hs ha => (hstart ⟨hs, ha⟩).elim, fun hs ha => (hstop ⟨hs, ha⟩).elim, fun _ _ => ⟨rfl, rfl, rfl⟩,
          ⟨rfl, rfl, rfl, rfl, rfl, rfl, rfl, rfl, rfl⟩, rfl, congrArg (· ++ _) (appliedDelivery_eq _ _)⟩
  · simp [pwmHigh, h]
  · simp [pwmHigh, h]
  · unfold pwmHigh
    omega

/-! ### Tach and captures -/

/-- Settles O24, an equation for each kind of edge and for the no-capture expiry. -/
theorem tachAndCapture : Obligations.TachAndCapture := by
  unfold Obligations.TachAndCapture
  rintro instant s N P time rfl rfl rfl
  refine ⟨fun h => ?reference, fun h hn => ?counted, fun h hn => ?capture, fun n hn => ?expiry, fun hn => ?quiet⟩
  case reference =>
    change Host.Outcome.next { s with bd := tachEdge s.mc.settings instant s.bd } = _
    simp [tachEdge, h]
  case counted =>
    change Host.Outcome.next { s with bd := tachEdge s.mc.settings instant s.bd } = _
    simp [tachEdge, h, show ¬ s.mc.settings.edges ≤ s.bd.chain.edges + 1 by omega]
  case capture =>
    change Host.Outcome.next { s with bd := tachEdge s.mc.settings instant s.bd } = _
    unfold tachEdge
    rw [if_pos h, if_pos hn, watchStall_eq]
    rfl
  case expiry =>
    change Host.Outcome.next { s with bd := noCapture s.bd } = _
    simp only [noCapture, hn, watchStall_eq, true_and]
  case quiet =>
    change Host.Outcome.next { s with bd := noCapture s.bd } = _
    simp only [noCapture, hn]

/-! ### The timers -/

section
variable {bd : Blower}

theorem stallExpiry_retry {n : Nat} (h : bd.stallLeft = some n) (hr : bd.retryCount + 1 < 3) :
    stallExpiry bd = ({ bd with
      applied := 0, retryCount := bd.retryCount + 1, healthyLeft := none, stallLeft := none, state := .retryWait
      finish := .stall, retryLeft := some 5000 }, appliedDelivery bd.applied 0 ++ [.notice .blowerStall none]) := by
  unfold stallExpiry
  simp only [h]
  exact if_neg (by omega)

theorem stallExpiry_fault {n : Nat} (h : bd.stallLeft = some n) (hr : 3 ≤ bd.retryCount + 1) :
    stallExpiry bd = ({ bd with
      applied := 0, retryCount := bd.retryCount + 1, healthyLeft := none, stallLeft := none, state := .fault
      finish := .fault }, appliedDelivery bd.applied 0 ++ [.notice .blowerFault none, .blowerFaulted true]) := by
  unfold stallExpiry
  simp only [h]
  exact if_pos hr

theorem runSecond_counts (h : 0 < bd.applied) :
    runSecond bd = ({ bd with runFraction := 0, runSeconds := min 4294967295 (bd.runSeconds + 1) },
      if min 4294967295 (bd.runSeconds + 1) ≠ bd.runSeconds ∧ min 4294967295 (bd.runSeconds + 1) % 3600 = 0 then
        [.checkpoint (runHourItem (min 4294967295 (bd.runSeconds + 1)))] else []) := if_pos (.inl h)

theorem runSecond_idle (h : bd.applied = 0) (hf : bd.runFraction < 1000) : runSecond bd = (bd, []) :=
  if_neg (by omega)

end

/-- Settles O25, an equation for each expiry. -/
theorem blowerTimers : Obligations.BlowerTimers := by
  unfold Obligations.BlowerTimers
  constructor
  · rintro s stopped fell rfl rfl
    refine ⟨fun n hn hr => ?_, fun n hn hr => ?_, fun hn => ?_⟩
    · change Host.Outcome.next (afterBlower (stallExpiry s.bd) s) = _
      rw [stallExpiry_retry hn hr]
      rfl
    · change Host.Outcome.next (afterBlower (stallExpiry s.bd) s) = _
      rw [stallExpiry_fault hn hr]
      rfl
    · change Host.Outcome.next (afterBlower (stallExpiry s.bd) s) = _
      simp only [stallExpiry, hn]
      rfl
  · rintro s seconds rfl
    refine ⟨fun n hn => ?_, fun hn => ?_, fun n hn => ?_, fun hn => ?_, fun ha hs hh => ?_, fun ha hs => ?_, fun ha hf => ?_⟩
    · change Host.Outcome.next { s with bd := retryExpiry s.bd } = _
      simp only [retryExpiry, hn]
    · change Host.Outcome.next { s with bd := retryExpiry s.bd } = _
      simp only [retryExpiry, hn]
    · change Host.Outcome.next { s with bd := healthyExpiry s.bd } = _
      simp only [healthyExpiry, hn]
    · change Host.Outcome.next { s with bd := healthyExpiry s.bd } = _
      simp only [healthyExpiry, hn]
    · change Host.Outcome.next (afterBlower (runSecond s.bd) s) = _
      rw [runSecond_counts ha, if_pos ⟨by omega, hh⟩]
      exact congrArg _ (settle_checkpoint _ _)
    · change Host.Outcome.next (afterBlower (runSecond s.bd) s) = _
      rw [runSecond_counts ha, if_neg (by omega)]
      rfl
    · change Host.Outcome.next (afterBlower (runSecond s.bd) s) = _
      rw [runSecond_idle ha hf]
      rfl

end Sys2Proof.Machine

/-!
The dampers (Chapter 4): steps of a move, of a homing and of a seek, targets, limit-met reports and mode changes
(O26 to O28).
-/
namespace Sys2Proof.Machine

/-! ### A damper that stands still takes its target (R74, R75, R77, R81) -/

section
variable {d : Damper} {p t : Nat}

theorem targetOf_some (ht : d.target = some t) : targetOf d = t := by simp [targetOf, ht]

theorem requiredOpening_of (hp : d.position = some p) (ht : d.target = some t) :
    requiredOpening d = min (t * 1000 / d.entry.travel) (p * 1000 / d.entry.travel) := by
  unfold requiredOpening
  rw [targetOf_some ht, positionOf_some d p hp]
  rfl

theorem enterWaiting_of (hp : d.position = some p) (ht : d.target = some t) :
    enterWaiting d = { d with
      state := .waiting, pending := d.share - min (t * 1000 / d.entry.travel) (p * 1000 / d.entry.travel)
      covered := none, seeking := false, stepLeft := none } := by
  unfold enterWaiting
  rw [requiredOpening_of hp ht]

theorem settleHere_of (hp : d.position = some p) :
    settleHere d = { d with
      state := .settled, share := p * 1000 / d.entry.travel, seeking := false, stepLeft := none } := by
  unfold settleHere
  rw [positionOf_some d p hp]
  rfl

theorem arrive_of (hp : d.position = some p) :
    arrive d = { d with
      state := .settled, share := p * 1000 / d.entry.travel, finish := .arrived, seeking := false
      stepLeft := none } := by
  unfold arrive
  rw [settleHere_of hp]

theorem decideClose_of (hp : d.position = some 0) :
    decideClose d =
      if d.homeSwitch then
        { d with state := .settled, share := 0, finish := .arrived, seeking := false, stepLeft := none }
      else { d with
        state := .moving, seeking := true, confirmCount := 0, towardOpen := false, stepLeft := some 10 } := by
  unfold decideClose
  rw [arrive_of hp, Nat.zero_mul, Nat.zero_div]

theorem proceed_waits (hp : d.position = some p) (ht : d.target = some t)
    (hq : min (t * 1000 / d.entry.travel) (p * 1000 / d.entry.travel) < d.share) :
    proceed d = { d with
      state := .waiting, pending := d.share - min (t * 1000 / d.entry.travel) (p * 1000 / d.entry.travel)
      covered := none, seeking := false, stepLeft := none } := by
  unfold proceed
  rw [if_pos (by rwa [requiredOpening_of hp ht]), enterWaiting_of hp ht]

theorem proceed_moves (hp : d.position = some p) (ht : d.target = some t)
    (hq : d.share ≤ min (t * 1000 / d.entry.travel) (p * 1000 / d.entry.travel)) (hne : t ≠ p) :
    proceed d = { d with
      state := .moving, seeking := false, towardOpen := decide (p < t), stepLeft := some 5 } := by
  unfold proceed
  rw [requiredOpening_of hp ht, if_neg (by omega), targetOf_some ht, positionOf_some d p hp, if_neg hne]

theorem proceed_settles (hp : d.position = some p) (ht : d.target = some t)
    (hq : d.share ≤ min (t * 1000 / d.entry.travel) (p * 1000 / d.entry.travel)) (he : t = p) (h0 : t ≠ 0) :
    proceed d = { d with
      state := .settled, share := p * 1000 / d.entry.travel, seeking := false, stepLeft := none } := by
  unfold proceed
  rw [requiredOpening_of hp ht, if_neg (by omega), targetOf_some ht, positionOf_some d p hp, if_pos he, if_neg h0,
    settleHere_of hp]

theorem proceed_closes (hp : d.position = some 0) (ht : d.target = some 0) (hq : d.share = 0) :
    proceed d =
      if d.homeSwitch then
        { d with state := .settled, share := 0, finish := .arrived, seeking := false, stepLeft := none }
      else { d with
        state := .moving, seeking := true, confirmCount := 0, towardOpen := false, stepLeft := some 10 } := by
  unfold proceed
  rw [if_neg (by simp [hq]), targetOf_some ht, positionOf_some d 0 hp, if_pos rfl, if_pos rfl, decideClose_of hp]

/-- At position 0 no share is left that the target does not release (R73). -/
theorem share_eq_zero_of_closed (hq : d.share ≤ min (0 * 1000 / d.entry.travel) (0 * 1000 / d.entry.travel)) :
    d.share = 0 := by simpa using hq

end

/-! ### What the steps do -/

/-- What an event at one damper that delivers nothing does. -/
theorem afterDamper_quiet {i : Fin 6} {s : State} {r : Damper × List Signal} {d : Damper} (h : r = (d, [])) :
    (.next (afterDamper i r s) : Host.Outcome State Fault Refusal) = .next { s with dp := ⟨s.dp.dampers.set i d⟩ } := by
  subst h
  rfl

theorem afterDamper_eq {i : Fin 6} {s : State} {r r' : Damper × List Signal} (h : r = r') :
    (.next (afterDamper i r s) : Host.Outcome State Fault Refusal)
      = .next (settle r'.2 { s with dp := ⟨s.dp.dampers.set i r'.1⟩ }) := by
  subst h
  rfl

theorem steppedPosition_of {d : Damper} {p t : Nat} (hp : d.position = some p) (ht : d.target = some t) :
    steppedPosition d = if p < t then p + 1 else if t < p then p - 1 else p := by
  unfold steppedPosition
  rw [targetOf_some ht, positionOf_some d p hp]

theorem steppedMove_of {d : Damper} {p t p' : Nat} (home : Bool) (hp : d.position = some p) (ht : d.target = some t)
    (hp' : steppedPosition d = p') :
    steppedMove home d = { d with
      homeSwitch := home, position := some p', towardOpen := decide (p < t), stepLeft := some 5 } := by
  unfold steppedMove
  rw [targetOf_some ht, positionOf_some d p hp, hp']

/-- A damper whose steps have slipped: it stands at 0 (R80). -/
def slipped (d : Damper) : Damper := { d with position := some 0, finish := .slip, stepLeft := none }

/-- Settles O26: a step of a move by where it ends. -/
theorem moveStep_holds : Obligations.MoveStep := by
  unfold Obligations.MoveStep
  rintro i home s d shown put rfl rfl rfl
  generalize hd : s.dp.dampers.get i = d
  refine ⟨fun p t p' stepped hs hseek hp ht hp' hstepped => ?step, fun h => ?other⟩
  case step =>
    rw [← steppedPosition_of hp ht] at hp'
    have hmove : steppedMove home d = stepped := by rw [hstepped, steppedMove_of home hp ht hp'.symm]
    have hkept : stepped.seeking = false ∧ stepped.share = d.share ∧ stepped.target = some t ∧ stepped.position = some p'
        ∧ stepped.homeSwitch = home ∧ stepped.state = .moving ∧ stepped.entry = d.entry
        ∧ stepped.stepLeft = some 5 := by
      rw [hstepped]
      exact ⟨hseek, rfl, ht, rfl, rfl, hs, rfl, rfl⟩
    clear hstepped
    obtain ⟨hseek', hshare, ht', hpos, hswitch, hstate, hentry, hleft⟩ := hkept
    have hrun := moveStep_moving i home hs hseek
    rw [hmove, ← hp', targetOf_some ht] at hrun
    have hexec : exec (.moveStep i home) s = .next (afterDamper i (moveStep i home d) s) := by rw [← hd]; rfl
    rw [hexec]
    refine ⟨fun h20 hh hsh => ?_, fun h20 hh hsh h0 => ?_, fun h20 hh hsh h0 => ?_, fun h0 hh => ?_, fun h0 hh => ?_,
      fun h0 hn he => ?_, fun h0 hn he => ?_⟩
    · have hx : proceed (slipped stepped) = { stepped with
          state := .waiting, position := some 0, finish := .slip, pending := d.share, covered := none
          stepLeft := none } := by
        rw [proceed_waits (d := slipped stepped) rfl ht' (by simp [slipped, hshare, hsh])]
        simp [slipped, hseek', hshare]
      rw [if_pos ⟨h20, hh⟩] at hrun
      exact (afterDamper_eq hrun).trans (by rw [← hx]; rfl)
    · have hx : proceed (slipped stepped) = { stepped with
          position := some 0, finish := .slip, towardOpen := true } := by
        rw [proceed_moves (d := slipped stepped) (p := 0) rfl ht' (by simp [slipped, hshare, hsh]) (by omega)]
        simp [slipped, hseek', hstate, h0, hleft]
      rw [if_pos ⟨h20, hh⟩] at hrun
      exact (afterDamper_eq hrun).trans (by rw [← hx]; rfl)
    · have hx : proceed (slipped stepped) = { stepped with
          state := .settled, position := some 0, finish := .arrived, stepLeft := none } := by
        subst h0
        rw [proceed_closes (d := slipped stepped) rfl ht' (hshare.trans hsh)]
        simp [slipped, hseek', hswitch, hh, hshare, hsh]
      rw [if_pos ⟨h20, hh⟩] at hrun
      exact (afterDamper_eq hrun).trans (by rw [← hx]; rfl)
    · have hx : decideClose stepped = { stepped with
          state := .settled, share := 0, finish := .arrived, stepLeft := none } := by
        rw [decideClose_of (by rw [hpos, h0]), hswitch, hh]
        simp [hseek']
      rw [if_neg (by omega), if_pos h0, hx] at hrun
      exact afterDamper_quiet hrun
    · have hx : decideClose stepped = { stepped with
          seeking := true, confirmCount := 0, towardOpen := false, stepLeft := some 10 } := by
        rw [decideClose_of (by rw [hpos, h0]), hswitch, hh]
        simp [hstate]
      rw [if_neg (by omega), if_pos h0, hx] at hrun
      exact afterDamper_quiet hrun
    · have hx : arrive stepped = { stepped with
          state := .settled, share := p' * 1000 / d.entry.travel, finish := .arrived, stepLeft := none } := by
        rw [arrive_of hpos, hentry]
        simp [hseek']
      have hslip : ¬ (20 < p' ∧ home = true) := by
        rintro ⟨h20, hh⟩
        rcases hn with hn | hn
        · omega
        · simp [hh] at hn
      rw [if_neg hslip, if_neg (by omega), if_pos he, hx] at hrun
      exact afterDamper_quiet hrun
    · have hslip : ¬ (20 < p' ∧ home = true) := by
        rintro ⟨h20, hh⟩
        rcases hn with hn | hn
        · omega
        · simp [hh] at hn
      rw [if_neg hslip, if_neg (by omega), if_neg he] at hrun
      exact afterDamper_quiet hrun
  case other =>
    subst hd
    refine afterDamper_quiet (moveStep_other i home ?_)
    rintro ⟨hs, hk⟩
    rcases h with h | h
    · exact h hs
    · simp [hk] at h

/-! ### Homing and the seek of the switch -/

section
variable {d : Damper}

/-- Homing has found the closed position, and the target recorded is none or the closed one (R72). -/
theorem homeFound_closed (h : d.target = none ∨ (d.target = some 0 ∧ d.homeSwitch = true)) :
    homeFound d = { d with
      position := some 0, state := .settled, share := 0, finish := .arrived, seeking := false, stepLeft := none } := by
  unfold homeFound
  rcases h with h | ⟨h, hswitch⟩
  · simp only [h]
  · simp only [h]
    rw [proceed_closes rfl rfl rfl, if_pos hswitch]

theorem homeFound_opens {t : Nat} (h : d.target = some t) (ht : 0 < t) :
    homeFound d = { d with
      position := some 0, state := .moving, share := 0, finish := .arrived, seeking := false, towardOpen := true
      stepLeft := some 5 } := by
  unfold homeFound
  simp only [h]
  rw [proceed_moves (p := 0) (t := t) rfl rfl (Nat.zero_le _) (by omega)]
  simp [ht]

/-- A homing damper after its next pulse, the switch showing `home` (R72). -/
def homingPulse (home : Bool) (d : Damper) : Damper :=
  { d with homeSwitch := home, homingCount := d.homingCount + 1, towardOpen := false, stepLeft := some 10 }

theorem homingStep_found (i : Fin 6) (h : d.state = .homing) :
    homingStep i true d = (homeFound (homingPulse true d), []) := if_pos h

theorem homingStep_fails (i : Fin 6) (h : d.state = .homing) (hc : d.entry.travel + 200 ≤ d.homingCount + 1) :
    homingStep i false d =
      ({ homingPulse false d with state := .faulted, finish := .homeNotFound, position := none, stepLeft := none },
        [.notice .damperFault (some (octet i.val))]) := by
  unfold homingStep
  rw [if_pos h, if_neg (by simp)]
  exact if_pos hc

theorem homingStep_goesOn (i : Fin 6) (h : d.state = .homing) (hc : d.homingCount + 1 < d.entry.travel + 200) :
    homingStep i false d = (homingPulse false d, []) := by
  unfold homingStep
  rw [if_pos h, if_neg (by simp)]
  exact if_neg (not_le.mpr hc)

theorem homingStep_other (i : Fin 6) (home : Bool) (h : d.state ≠ .homing) :
    homingStep i home d = ({ d with homeSwitch := home }, []) := if_neg h

/-- A seeking damper after its next pulse, the switch showing `home` (R81). -/
def seekPulse (home : Bool) (d : Damper) : Damper :=
  { d with homeSwitch := home, confirmCount := d.confirmCount + 1, stepLeft := some 10 }

theorem seekStep_found (i : Fin 6) (h : d.state = .moving ∧ d.seeking = true) :
    seekStep i true d = (arrive (seekPulse true d), []) := if_pos h

theorem seekStep_fails (i : Fin 6) (h : d.state = .moving ∧ d.seeking = true) (hc : 40 ≤ d.confirmCount + 1) :
    seekStep i false d =
      ({ seekPulse false d with state := .faulted, finish := .homeLost, seeking := false, stepLeft := none },
        [.notice .damperFault (some (octet i.val))]) := by
  unfold seekStep
  rw [if_pos h, if_neg (by simp)]
  exact if_pos hc

theorem seekStep_goesOn (i : Fin 6) (h : d.state = .moving ∧ d.seeking = true) (hc : d.confirmCount + 1 < 40) :
    seekStep i false d = (seekPulse false d, []) := by
  unfold seekStep
  rw [if_pos h, if_neg (by simp)]
  exact if_neg (not_le.mpr hc)

theorem seekStep_other (i : Fin 6) (home : Bool) (h : ¬ (d.state = .moving ∧ d.seeking = true)) :
    seekStep i home d = ({ d with homeSwitch := home }, []) := if_neg h

end

/-- Settles O27: a step of a homing and of a seek by where it ends. -/
theorem homingAndSeekSteps : Obligations.HomingAndSeekSteps := by
  unfold Obligations.HomingAndSeekSteps
  rintro i home s d shown homed sought put rfl rfl rfl rfl rfl
  refine ⟨fun hs hh ht => ?_, fun t hs hh ht h0 => ?_, fun hs hh hc => ?_, fun hs hh hc => ?_,
    fun hs => afterDamper_quiet (homingStep_other i home hs), fun hs hk hp hh => ?_, fun hs hk hh hc => ?_,
    fun hs hk hh hc => ?_, fun h => afterDamper_quiet (seekStep_other i home (by rintro ⟨h1, h2⟩; simp_all))⟩
  · subst hh
    have hx := homeFound_closed (d := homingPulse true (s.dp.dampers.get i)) (ht.imp_right fun h => ⟨h, rfl⟩)
    exact afterDamper_quiet ((homingStep_found i hs).trans (by rw [hx]; rfl))
  · subst hh
    have hx := homeFound_opens (d := homingPulse true (s.dp.dampers.get i)) ht h0
    exact afterDamper_quiet ((homingStep_found i hs).trans (by rw [hx]; rfl))
  · subst hh
    exact afterDamper_eq (homingStep_fails i hs hc)
  · subst hh
    exact afterDamper_quiet (homingStep_goesOn i hs hc)
  · subst hh
    have hx := arrive_of (d := seekPulse true (s.dp.dampers.get i)) hp
    rw [Nat.zero_mul, Nat.zero_div] at hx
    exact afterDamper_quiet ((seekStep_found i ⟨hs, hk⟩).trans (by rw [hx]; rfl))
  · subst hh
    exact afterDamper_eq (seekStep_fails i ⟨hs, hk⟩ hc)
  · subst hh
    exact afterDamper_quiet (seekStep_goesOn i ⟨hs, hk⟩ hc)

/-! ### Targets (Table 4-4) -/

section
variable {d : Damper} {p t given : Nat}

theorem takeTarget_settled (hs : d.state = .settled) (hne : d.target ≠ some (min given d.entry.travel)) :
    takeTarget false given d = proceed (withTarget (min given d.entry.travel) d) := by
  unfold takeTarget
  simp only [hs]
  exact (if_neg hne).trans (by rw [withTarget, hs])

theorem takeTarget_moving (hs : d.state = .moving) (hne : d.target ≠ some (min given d.entry.travel)) :
    takeTarget false given d = retargetMove (withTarget (min given d.entry.travel) d) := by
  unfold takeTarget
  simp only [hs]
  exact (if_neg hne).trans (by rw [withTarget, hs])

theorem takeTarget_waiting (hs : d.state = .waiting) (hne : d.target ≠ some (min given d.entry.travel)) :
    takeTarget false given d = retargetWaiting (withTarget (min given d.entry.travel) d) := by
  unfold takeTarget
  simp only [hs]
  exact (if_neg hne).trans (by rw [withTarget, hs])

theorem takeTarget_same {service : Bool} (ht : d.target = some (min given d.entry.travel)) (hs : d.state ≠ .unhomed) :
    takeTarget service given d = d := by
  have hsame : { d with target := some (min given d.entry.travel) } = d := by rw [← ht]
  unfold takeTarget
  dsimp only
  rw [hsame]
  split
  next h => rfl
  next h => exact absurd h hs
  · rfl
  · rfl
  · exact if_pos ht
  · exact if_pos ht
  · exact if_pos ht

theorem retargetMove_waits (hp : d.position = some p) (ht : d.target = some t)
    (hq : min (t * 1000 / d.entry.travel) (p * 1000 / d.entry.travel) < d.share) :
    retargetMove d = { d with
      state := .waiting, finish := .retargeted
      pending := d.share - min (t * 1000 / d.entry.travel) (p * 1000 / d.entry.travel)
      covered := none, seeking := false, stepLeft := none } := by
  have hq' := requiredOpening_of (d := { d with finish := .retargeted }) hp ht
  unfold retargetMove
  dsimp only at hq' ⊢
  rw [if_pos (by rwa [hq']), enterWaiting_of (d := { d with finish := .retargeted }) hp ht]

theorem retargetMove_turns (hp : d.position = some p) (ht : d.target = some t)
    (hq : d.share ≤ min (t * 1000 / d.entry.travel) (p * 1000 / d.entry.travel)) (hne : t ≠ p) :
    retargetMove d = { d with
      finish := .retargeted, seeking := false, towardOpen := decide (p < t)
      stepLeft := if d.seeking then d.stepLeft.map (· - 5) else d.stepLeft } := by
  have hq' := requiredOpening_of (d := { d with finish := .retargeted }) hp ht
  have ht' := targetOf_some (d := { d with finish := .retargeted }) ht
  have hp' := positionOf_some { d with finish := .retargeted } p hp
  unfold retargetMove
  dsimp only at hq' ht' hp' ⊢
  rw [hq', ht', hp', if_neg (not_lt.mpr hq), if_neg hne]

theorem retargetMove_arrives (hp : d.position = some p) (ht : d.target = some t)
    (hq : d.share ≤ min (t * 1000 / d.entry.travel) (p * 1000 / d.entry.travel)) (he : t = p) (h0 : t ≠ 0) :
    retargetMove d = { d with
      state := .settled, share := p * 1000 / d.entry.travel, finish := .arrived, seeking := false
      stepLeft := none } := by
  have hq' := requiredOpening_of (d := { d with finish := .retargeted }) hp ht
  have ht' := targetOf_some (d := { d with finish := .retargeted }) ht
  have hp' := positionOf_some { d with finish := .retargeted } p hp
  unfold retargetMove
  dsimp only at hq' ht' hp' ⊢
  rw [hq', ht', hp', if_neg (not_lt.mpr hq), if_pos he, if_neg h0, arrive_of (d := { d with finish := .retargeted }) hp]

theorem retargetMove_closes (hp : d.position = some 0) (ht : d.target = some 0) (hq : d.share = 0) :
    retargetMove d =
      if d.homeSwitch then
        { d with state := .settled, share := 0, finish := .arrived, seeking := false, stepLeft := none }
      else { d with
        state := .moving, finish := .retargeted, seeking := true, confirmCount := 0, towardOpen := false
        stepLeft := some 10 } := by
  have ht' := targetOf_some (d := { d with finish := .retargeted }) ht
  have hp' := positionOf_some { d with finish := .retargeted } 0 hp
  unfold retargetMove
  dsimp only at ht' hp' ⊢
  rw [if_neg (by simp [hq]), ht', hp', if_pos rfl, if_pos rfl, decideClose_of (d := { d with finish := .retargeted }) hp]

theorem retargetWaiting_waits (hp : d.position = some p) (ht : d.target = some t)
    (hq : min (t * 1000 / d.entry.travel) (p * 1000 / d.entry.travel) < d.share) :
    retargetWaiting d =
      { d with pending := d.share - min (t * 1000 / d.entry.travel) (p * 1000 / d.entry.travel) } := by
  unfold retargetWaiting
  rw [requiredOpening_of hp ht, if_pos hq]

/-- A Waiting damper without its reduction (R77, R79). -/
def withoutReduction (d : Damper) : Damper := { d with pending := 0, covered := none }

theorem retargetWaiting_proceeds (hp : d.position = some p) (ht : d.target = some t)
    (hq : d.share ≤ min (t * 1000 / d.entry.travel) (p * 1000 / d.entry.travel)) :
    retargetWaiting d = proceed (withoutReduction d) := by
  unfold retargetWaiting
  rw [requiredOpening_of hp ht, if_neg (not_lt.mpr hq)]
  rfl

theorem releaseShare_covered {c : Nat} (hs : d.state = .waiting) (hc : d.covered = some c) (hle : d.pending ≤ c) :
    releaseShare d = proceed { withoutReduction d with share := d.share - d.pending } := by
  unfold releaseShare
  simp only [hs, hc]
  exact if_pos hle

theorem releaseShare_other (h : d.state ≠ .waiting ∨ d.covered = none ∨ ∃ c, d.covered = some c ∧ c < d.pending) :
    releaseShare d = d := by
  unfold releaseShare
  split
  next c hs hc =>
    refine if_neg fun hle => ?_
    rcases h with h | h | ⟨c', hc', hlt⟩
    · exact h hs
    · rw [hc] at h
      cases h
    · rw [hc] at hc'
      cases hc'
      omega
  · rfl

theorem startHoming_open (h : d.homeSwitch = false) :
    startHoming d = { d with
      state := .homing, share := 0, homingCount := 0, towardOpen := false, stepLeft := some 10 } :=
  if_neg (by simp [h])

/-- A homing that begins on an asserted switch (R71). -/
def homingBegun (d : Damper) : Damper :=
  { d with state := .homing, share := 0, homingCount := 0, towardOpen := false, stepLeft := some 10 }

theorem startHoming_home (h : d.homeSwitch = true) : startHoming d = homeFound (homingBegun d) := if_pos h

theorem startHoming_closed (h : d.homeSwitch = true) (ht : d.target = none ∨ d.target = some 0) :
    startHoming d = { d with
      state := .settled, position := some 0, share := 0, homingCount := 0, finish := .arrived, seeking := false
      towardOpen := false, stepLeft := none } := by
  rw [startHoming_home h, homeFound_closed (d := homingBegun d) (ht.imp_right fun ht => ⟨ht, h⟩)]
  rfl

theorem startHoming_opens (h : d.homeSwitch = true) (ht : d.target = some t) (h0 : 0 < t) :
    startHoming d = { d with
      state := .moving, position := some 0, share := 0, homingCount := 0, finish := .arrived, seeking := false
      towardOpen := true, stepLeft := some 5 } := by
  rw [startHoming_home h, homeFound_opens (d := homingBegun d) ht h0]
  rfl

end

/-! ### Mode changes (R84 to R86) -/

section
variable {old new : UnitMode} {d : Damper}

theorem damperMode_service : damperMode old .service d = stopForService d := if_pos rfl

theorem damperMode_leaves (hnew : new ≠ .service) : damperMode .service new d = homeAfterService d := by
  unfold damperMode
  rw [if_neg hnew, if_pos rfl]

theorem damperMode_other (hold : old ≠ .service) (hnew : new ≠ .service) : damperMode old new d = d := by
  unfold damperMode
  rw [if_neg hnew, if_neg hold]

theorem homeAfterService_homes (h : d.state = .unhomed ∧ d.entry.fitted = true) :
    homeAfterService d = startHoming d := if_pos h

theorem homeAfterService_other (h : d.state ≠ .unhomed ∨ d.entry.fitted = false) : homeAfterService d = d :=
  if_neg (by rintro ⟨h1, h2⟩; rcases h with h | h <;> simp_all)

end

/-- Settles O28: a target, a limit-met report and a mode change at one damper, each by the damper's state. -/
theorem damperTargetsAndModes : Obligations.DamperTargetsAndModes := by
  unfold Obligations.DamperTargetsAndModes
  refine ⟨?targets, ?released, ?modes⟩
  case targets =>
    rintro given t p q d recorded rfl rfl hne rfl
    generalize hsteps : min given d.entry.travel = t at hne ⊢
    have hne' : d.target ≠ some (min given d.entry.travel) := by rwa [hsteps]
    have hclosed (h0 : t = 0) (hp0 : p = 0)
        (hq : d.share ≤ min (t * 1000 / d.entry.travel) (p * 1000 / d.entry.travel)) : d.share = 0 := by
      simpa [h0, hp0] using hq
    refine ⟨fun hs => ?unfitted, fun hs => ?recorded, fun hs hp hk => ?settled, fun hs hp hk hsh h0 => ?seek,
      fun hs hp hk => ?moving, fun hs hp hk => ?waiting, fun service x ht hs => takeTarget_same ht hs⟩
    case unfitted => simp [takeTarget, hs]
    case recorded => rcases hs with hs | hs | hs <;> simp [takeTarget, hs, hsteps]
    case seek =>
      rw [takeTarget_moving hs hne', hsteps,
        retargetMove_turns (d := withTarget t d) (t := t) hp rfl (by simp [withTarget, hsh]) (by omega)]
      simp [withTarget, hk, h0]
    case settled =>
      rw [takeTarget_settled hs hne', hsteps]
      refine ⟨fun hq => ?_, fun hq h => ?_, fun hq h h0 => ?_, fun hq h0 hp0 => ?_⟩
      · rw [proceed_waits (d := withTarget t d) (t := t) hp rfl hq]
        simp [withTarget, hk]
      · rw [proceed_moves (d := withTarget t d) (t := t) hp rfl hq h]
        simp [withTarget, hk]
      · rw [proceed_settles (d := withTarget t d) (t := t) hp rfl hq h h0]
        simp [withTarget, hk, hs]
      · have hsh := hclosed h0 hp0 hq
        subst h0 hp0
        rw [proceed_closes (d := withTarget 0 d) hp rfl hsh]
        simp [withTarget, hk, hs]
    case moving =>
      rw [takeTarget_moving hs hne', hsteps]
      refine ⟨fun hq => ?_, fun hq h => ?_, fun hq h h0 => ?_, fun hq h0 hp0 => ?_⟩
      · rw [retargetMove_waits (d := withTarget t d) (t := t) hp rfl hq]
        simp [withTarget, hk]
      · rw [retargetMove_turns (d := withTarget t d) (t := t) hp rfl hq h]
        simp [withTarget, hk]
      · rw [retargetMove_arrives (d := withTarget t d) (t := t) hp rfl hq h h0]
        simp [withTarget, hk]
      · have hsh := hclosed h0 hp0 hq
        subst h0 hp0
        rw [retargetMove_closes (d := withTarget 0 d) hp rfl hsh]
        simp [withTarget, hk, hs]
    case waiting =>
      rw [takeTarget_waiting hs hne', hsteps]
      refine ⟨fun hq => ?_, fun hq h => ?_, fun hq h h0 => ?_, fun hq h0 hp0 => ?_⟩
      · rw [retargetWaiting_waits (d := withTarget t d) (t := t) hp rfl hq]
        rfl
      · rw [retargetWaiting_proceeds (d := withTarget t d) (t := t) hp rfl hq,
          proceed_moves (d := withoutReduction (withTarget t d)) (t := t) hp rfl hq h]
        simp [withTarget, withoutReduction, hk]
      · rw [retargetWaiting_proceeds (d := withTarget t d) (t := t) hp rfl hq,
          proceed_settles (d := withoutReduction (withTarget t d)) (t := t) hp rfl hq h h0]
        simp [withTarget, withoutReduction, hk]
      · have hsh := hclosed h0 hp0 hq
        subst h0 hp0
        rw [retargetWaiting_proceeds (d := withTarget 0 d) (t := 0) hp rfl hq,
          proceed_closes (d := withoutReduction (withTarget 0 d)) hp rfl hsh]
        simp [withTarget, withoutReduction, hk]
  case released =>
    rintro applied sum s i d d' rfl hd'
    have hget : d' = releaseShare (s.dp.dampers.get i) := hd'.trans (Six.get_map _ _ _)
    clear hd'
    subst hget
    generalize s.dp.dampers.get i = d
    refine ⟨fun c p t hs hc hle hp ht hk hq => ?_, fun h => releaseShare_other h, _, rfl⟩
    rw [releaseShare_covered hs hc hle]
    generalize hreleased : { withoutReduction d with share := d.share - d.pending } = released
    have hfields : released.position = some p ∧ released.target = some t ∧ released.entry = d.entry
        ∧ released.share = d.share - d.pending ∧ released.homeSwitch = d.homeSwitch := by
      rw [← hreleased]
      exact ⟨hp, ht, rfl, rfl, rfl⟩
    obtain ⟨hp', ht', he', hsh', hswitch⟩ := hfields
    rw [← he', ← hsh'] at hq
    refine ⟨fun h => ?_, fun h h0 => ?_, fun h0 hp0 => ?_⟩
    · rw [proceed_moves hp' ht' hq h, ← hreleased]
      simp [withoutReduction, hk]
    · rw [proceed_settles hp' ht' hq h h0, ← hreleased]
      simp [withoutReduction, hk]
    · subst h0 hp0
      rw [proceed_closes hp' ht' (by simpa using hq), hswitch, ← hreleased]
      simp [withoutReduction, hk]
  case modes =>
    intro old new d
    refine ⟨fun p hnew hs hp => ?_, fun hnew hs => ?_, fun hnew hs hs' => ?_, fun hold hnew hs hf hh => ?_,
      fun hold hnew hs hf hh => ⟨fun ht => ?_, fun t ht h0 => ?_⟩, fun hold hnew h => ?_,
      fun hold hnew => damperMode_other hold hnew⟩
    · rw [hnew, damperMode_service]
      simp only [stopForService, hs, settleHere_of hp, hp]
    · rw [hnew, damperMode_service]
      simp only [stopForService, hs]
    · rw [hnew, damperMode_service]
      unfold stopForService
      split
      next h => exact absurd h hs
      next h => exact absurd h hs'
      · rfl
    · rw [hold, damperMode_leaves hnew, homeAfterService_homes ⟨hs, hf⟩, startHoming_open hh]
    · rw [hold, damperMode_leaves hnew, homeAfterService_homes ⟨hs, hf⟩, startHoming_closed hh ht]
    · rw [hold, damperMode_leaves hnew, homeAfterService_homes ⟨hs, hf⟩, startHoming_opens hh ht h0]
    · rw [hold, damperMode_leaves hnew, homeAfterService_other h]

end Sys2Proof.Machine


/-! The requests that load a damper, a table or a stage account, and the reads. -/
namespace Sys2Proof.Machine

/-! ### The owner's answer in the command -/

/-- A Request of a fixed length that a ready link receives: when its owner answers `a`, the command places that Reply on
the state of `a` (R168). -/
theorem taken (tag number : Byte) (fields : List Byte) (kind : RequestKind) {s : State} {a : Answer}
    (hr : linkReady s.pl = true) (ha : ownerAnswer kind fields s = a) (hk : requestOf number = some kind)
    (hl : lengthHolds kind (number :: fields) = true) :
    (Host.Outcome.next (receiveRequest tag (number :: fields) s) : Host.Outcome State Fault Refusal) =
      .next (replyWith tag number a.status a.data a.state) := by
  rw [receiveRequest_owner tag number fields kind s hr hk hl, ha]

/-- A Request of another length than the fixed one is answered BadLength at a ready link (R168 step 3). -/
theorem taken_badLength (tag number : Byte) (fields : List Byte) (kind : RequestKind) {s : State}
    (hr : linkReady s.pl = true) (hk : requestOf number = some kind)
    (hl : lengthHolds kind (number :: fields) = false) :
    (Host.Outcome.next (receiveRequest tag (number :: fields) s) : Host.Outcome State Fault Refusal) =
      .next (replyWith tag number .badLength [] s) := by
  rw [receiveRequest_ready tag _ s hr, takeRequest_badLength tag number fields kind s hk hl]

/-- The number of a class or profile, 0 to 3, names it. -/
theorem quadOf_of_toNat (o : Byte) (i : Fin 4) (h : o.toNat = i.val) : quadOf o = some i := by
  rw [quadOf_eq o (h ▸ i.isLt)]
  exact congrArg some (Fin.ext h)

/-! ### Load Damper Entry (R67, R68) -/

section Damper
variable (damper fitted : Byte) (travel bleed rest : Half) (s : State)

/-- The fields of Load Damper Entry after its number (Table 11-5). -/
def damperFields : List Byte := [damper, fitted, hi travel, lo travel, hi bleed, lo bleed, hi rest, lo rest]

/-- The four fields lie in the ranges of Table 4-1 (R67 step 2). -/
def damperFieldsInRange : Prop :=
  fitted.toNat ≤ 1 ∧ 200 ≤ travel.toNat ∧ travel.toNat ≤ 2000 ∧ bleed.toNat ≤ 500 ∧ rest.toNat ≤ 1000

/-- The entry that the four fields spell (Table 4-1). -/
def spelledDamper : DamperEntry := ⟨decide (fitted = 1#8), travel.toNat, bleed.toNat, rest.toNat⟩

theorem damperEntryOf_spelled (h : damperFieldsInRange fitted travel bleed rest) :
    damperEntryOf (damperFields damper fitted travel bleed rest) = some (spelledDamper fitted travel bleed rest) := by
  obtain ⟨hfit, hwords⟩ := h
  simp [damperEntryOf, damperFields, boolOf_eq, hfit, hwords, spelledDamper]

theorem damperEntryOf_outOfRange (h : ¬ damperFieldsInRange fitted travel bleed rest) :
    damperEntryOf (damperFields damper fitted travel bleed rest) = none := by
  by_cases hfit : fitted.toNat ≤ 1
  · have hwords : ¬ (200 ≤ travel.toNat ∧ travel.toNat ≤ 2000 ∧ bleed.toNat ≤ 500 ∧ rest.toNat ≤ 1000) :=
      fun hw => h ⟨hfit, hw⟩
    simpa [damperEntryOf, damperFields, boolOf_eq, hfit] using hwords
  · simp [damperEntryOf, damperFields, boolOf_eq, hfit]

/-- Step 1 of R67. -/
theorem answerDamperEntry_badIndex (h : 6 ≤ damper.toNat) :
    answerDamperEntry (damperFields damper fitted travel bleed rest) s = refuse .badIndex s := by
  simp [answerDamperEntry, damperFields, sixOf_none damper h]

section KnownDamper
variable (i : Fin 6) (hi : damper.toNat = i.val)
include hi

/-- Step 2 of R67. -/
theorem answerDamperEntry_badTable (h : ¬ damperFieldsInRange fitted travel bleed rest) :
    answerDamperEntry (damperFields damper fitted travel bleed rest) s = refuse .badTable s := by
  unfold answerDamperEntry
  rw [damperEntryOf_outOfRange damper fitted travel bleed rest h]
  simp [damperFields, sixOf_of_toNat damper i hi]

variable (h : damperFieldsInRange fitted travel bleed rest)
include h

/-- Step 3 of R67. -/
theorem answerDamperEntry_busy (hbusy : 0 < s.bd.applied ∨ (s.dp.dampers.get i).state = .moving
      ∨ (s.dp.dampers.get i).state = .homing) :
    answerDamperEntry (damperFields damper fitted travel bleed rest) s = refuse .busy s := by
  unfold answerDamperEntry
  rw [damperEntryOf_spelled damper fitted travel bleed rest h]
  simp only [damperFields, byteAt_zero, sixOf_of_toNat damper i hi, if_pos hbusy]

/-- The damper is set afresh by the entry, and a demand update follows (R68). -/
theorem answerDamperEntry_loaded (hidle : ¬ (0 < s.bd.applied ∨ (s.dp.dampers.get i).state = .moving
      ∨ (s.dp.dampers.get i).state = .homing)) {loaded : Damper}
    (hl : loadDamper s.mc.mode (spelledDamper fitted travel bleed rest) (s.dp.dampers.get i) = loaded) :
    answerDamperEntry (damperFields damper fitted travel bleed rest) s =
      carried (settle [.demandUpdate] { s with dp := ⟨s.dp.dampers.set i loaded⟩ }) := by
  unfold answerDamperEntry
  rw [damperEntryOf_spelled damper fitted travel bleed rest h]
  simp only [damperFields, byteAt_zero, sixOf_of_toNat damper i hi, if_neg hidle, hl]

end KnownDamper

end Damper

section LoadDamper
variable {mode : UnitMode} {e : DamperEntry} {d : Damper}

theorem loadDamper_rests (h : e.fitted = false ∨ mode = .service) : loadDamper mode e d = afreshDamper e d := by
  rw [loadDamper_eq, if_neg]
  rintro ⟨hf, hm⟩
  exact h.elim (by simp [hf]) hm

theorem afreshDamper_target (hf : e.fitted = true) : (afreshDamper e d).target = some (e.rest * e.travel / 1000) :=
  if_pos hf

variable (hf : e.fitted = true) (hm : mode ≠ .service)
include hf hm

theorem loadDamper_homes : loadDamper mode e d = startHoming (afreshDamper e d) := by
  rw [loadDamper_eq, if_pos ⟨hf, hm⟩]

theorem loadDamper_open (hs : d.homeSwitch = false) :
    loadDamper mode e d = { afreshDamper e d with state := .homing, towardOpen := false, stepLeft := some 10 } :=
  (loadDamper_homes hf hm).trans (startHoming_open hs)

theorem loadDamper_closed (hs : d.homeSwitch = true) (ht : e.rest * e.travel / 1000 = 0) :
    loadDamper mode e d =
      { afreshDamper e d with state := .settled, position := some 0, finish := .arrived, towardOpen := false } :=
  (loadDamper_homes hf hm).trans
    (startHoming_closed hs (.inr ((afreshDamper_target hf).trans (congrArg some ht))))

theorem loadDamper_opens (hs : d.homeSwitch = true) (ht : 0 < e.rest * e.travel / 1000) :
    loadDamper mode e d = { afreshDamper e d with
      state := .moving, position := some 0, finish := .arrived, towardOpen := true, stepLeft := some 5 } :=
  (loadDamper_homes hf hm).trans (startHoming_opens hs (afreshDamper_target hf) ht)

end LoadDamper

/-- Settles O30: the checks in their order, then the damper as it is loaded in Service, on an open and on an asserted
switch. -/
theorem loadDamperEntry : Obligations.LoadDamperEntry := by
  unfold Obligations.LoadDamperEntry
  rintro tag damper fitted travel bleed rest s inRange busy e hr hrange rfl
  have answered (a : Answer) (ha : answerDamperEntry (damperFields damper fitted travel bleed rest) s = a) :
      exec (.loadDamperEntry tag damper fitted travel bleed rest) s = .next (replyWith tag 0x08#8 a.status a.data a.state) :=
    taken tag 0x08#8 (damperFields damper fitted travel bleed rest) .loadDamperEntry hr ha rfl rfl
  refine ⟨fun h => answered _ (answerDamperEntry_badIndex _ _ _ _ _ s h), ?known⟩
  rintro i d afresh hi rfl hb rfl
  have loaded {new : Damper} (hin : inRange) (hidle : ¬ busy)
      (hl : loadDamper s.mc.mode (spelledDamper fitted travel bleed rest) (s.dp.dampers.get i) = new) :=
    answered _ (answerDamperEntry_loaded _ _ _ _ _ s i hi (hrange.mp hin) (mt hb.mpr hidle) hl)
  exact ⟨fun h => answered _ (answerDamperEntry_badTable _ _ _ _ _ s i hi (mt hrange.mpr h)),
    fun hin hbusy => answered _ (answerDamperEntry_busy _ _ _ _ _ s i hi (hrange.mp hin) (hb.mp hbusy)),
    fun hin hidle h => loaded hin hidle (loadDamper_rests h),
    fun hin hidle hf hm hs => loaded hin hidle (loadDamper_open hf hm hs),
    fun hin hidle hf hm hs ht => loaded hin hidle (loadDamper_closed hf hm hs ht),
    fun hin hidle hf hm hs ht => loaded hin hidle (loadDamper_opens hf hm hs ht)⟩

/-! ### Load Fan Curve (R92) -/

section Curve
variable (tag : Byte) (points : List Half) (s : State)

/-- A list of points is within the range of R92 exactly when no point is above 1500. -/
theorem curve_inRange_iff :
    (((halves (points.flatMap octets16)).map BitVec.toNat).all fun p => decide (p ≤ 1500)) = true
      ↔ ∀ p ∈ points, p.toNat ≤ 1500 := by
  simp [halves_flatMap]

theorem answerFanCurve_badTable (h : ¬ ∀ p ∈ points, p.toNat ≤ 1500) :
    answerFanCurve (points.flatMap octets16) s = refuse .badTable s :=
  if_neg (mt (curve_inRange_iff points).mp h)

theorem answerFanCurve_loaded (h : ∀ p ∈ points, p.toNat ≤ 1500) :
    answerFanCurve (points.flatMap octets16) s =
      carried { s with du := { s.du with curve := points.map BitVec.toNat } } := by
  refine (if_pos ((curve_inRange_iff points).mpr h)).trans ?_
  rw [halves_flatMap]

/-- The payload of Load Fan Curve has the length of Table 11-2 exactly when it carries 17 points. -/
theorem lengthHolds_fanCurve :
    lengthHolds .loadFanCurve (0x05#8 :: points.flatMap octets16) = decide (points.length = 17) := by
  simp only [lengthHolds, fixedLength, List.length_cons, length_flatMap_octets16, beq_eq_decide]
  exact decide_eq_decide.mpr (by omega)

end Curve

/-! ### Load Filter Class (R103) -/

section Class
variable (number : Byte) (f : ClassFields) (s : State)

/-- The class that the eight fields spell (Table 6-1). -/
def spelledClass : FilterClass :=
  ⟨f.capacity.toNat, f.efficiency.toNat, f.clean.toNat, f.worn.toNat, f.absent.toNat, f.slope.toNat, f.reference.toNat,
    f.due.toNat⟩

theorem classOf_classOctets : classOf (classOctets f) = some (spelledClass f) := by
  simp [classOctets, octets16, classOf, spelledClass]

/-- The ranges of Table 6-1, field by field. -/
theorem classInRange_iff (c : FilterClass) :
    classInRange c = true ↔ 1 ≤ c.capacity ∧ 1 ≤ c.efficiency ∧ c.efficiency ≤ 1000 ∧ c.clean ≤ 600
      ∧ c.clean + 20 ≤ c.worn ∧ c.worn ≤ 1000 ∧ c.absent ≤ c.clean ∧ c.reference ≤ 4000 ∧ 500 ≤ c.due ∧ c.due ≤ 999 := by
  simp [classInRange, and_assoc]

/-- Step 1 of R103. -/
theorem answerFilterClass_badIndex (h : 4 ≤ number.toNat) :
    answerFilterClass (number :: classOctets f) s = refuse .badIndex s := by
  simp [answerFilterClass, quadOf_none number h]

variable (i : Fin 4) (hi : number.toNat = i.val)
include hi

theorem answerFilterClass_of :
    answerFilterClass (number :: classOctets f) s =
      if classInRange (spelledClass f) = false then refuse .badTable s
      else if s.fs.pre.number = i ∨ s.fs.fine.number = i then refuse .busy s
      else carried { s with fs := { s.fs with classes := s.fs.classes.set i (spelledClass f) } } := by
  simp only [answerFilterClass, byteAt_zero, quadOf_of_toNat number i hi, List.drop_succ_cons, List.drop_zero,
    classOf_classOctets]

theorem answerFilterClass_badTable (h : classInRange (spelledClass f) = false) :
    answerFilterClass (number :: classOctets f) s = refuse .badTable s := by
  rw [answerFilterClass_of number f s i hi, if_pos h]

variable (h : classInRange (spelledClass f) = true)
include h

theorem answerFilterClass_busy (hb : s.fs.pre.number = i ∨ s.fs.fine.number = i) :
    answerFilterClass (number :: classOctets f) s = refuse .busy s := by
  rw [answerFilterClass_of number f s i hi, if_neg (by simp [h]), if_pos hb]

theorem answerFilterClass_loaded (hp : s.fs.pre.number ≠ i) (hf : s.fs.fine.number ≠ i) :
    answerFilterClass (number :: classOctets f) s =
      carried { s with fs := { s.fs with classes := s.fs.classes.set i (spelledClass f) } } := by
  rw [answerFilterClass_of number f s i hi, if_neg (by simp [h]), if_neg (not_or.mpr ⟨hp, hf⟩)]

end Class

/-! ### Load Ramp Profile (R49) -/

/-- Ceilings rise strictly from above `low` to a last one of 1000 exactly when each is above `low` and at most 1000, each
is below those after it, and the last is 1000. -/
theorem ceilingsRise_iff (low : Nat) (b : Band) (rest : List Band) :
    ceilingsRise low (b :: rest) = true ↔ (∀ x ∈ b :: rest, low < x.ceiling ∧ x.ceiling ≤ 1000)
      ∧ ((b :: rest).map Band.ceiling).Pairwise (· < ·) ∧ ((b :: rest).map Band.ceiling).getLast? = some 1000 := by
  induction rest generalizing low b with
  | nil =>
    simp only [ceilingsRise, Bool.and_eq_true, decide_eq_true_eq, beq_iff_eq, List.mem_singleton, forall_eq, List.map_cons,
      List.map_nil, List.pairwise_singleton, List.getLast?_singleton, Option.some.injEq, true_and]
    omega
  | cons c rest ih =>
    have hunfold : ceilingsRise low (b :: c :: rest) = true ↔ low < b.ceiling ∧ ceilingsRise b.ceiling (c :: rest) = true := by
      simp [ceilingsRise]
    have hlast : ((b :: c :: rest).map Band.ceiling).getLast? = ((c :: rest).map Band.ceiling).getLast? :=
      List.getLast?_cons_cons
    have hrises : ((b :: c :: rest).map Band.ceiling).Pairwise (· < ·)
        ↔ (∀ x ∈ c :: rest, b.ceiling < x.ceiling) ∧ ((c :: rest).map Band.ceiling).Pairwise (· < ·) := by
      rw [List.map_cons, List.pairwise_cons, List.forall_mem_map]
    rw [hunfold, ih b.ceiling c, hlast, hrises, List.forall_mem_cons (a := b)]
    constructor
    · rintro ⟨hb, hall, hp, hl⟩
      have hc := hall c List.mem_cons_self
      exact ⟨⟨⟨hb, by omega⟩, fun x hx => ⟨hb.trans (hall x hx).1, (hall x hx).2⟩⟩, ⟨fun x hx => (hall x hx).1, hp⟩, hl⟩
    · rintro ⟨⟨⟨hb, -⟩, hall⟩, ⟨hrise, hp⟩, hl⟩
      exact ⟨hb, fun x hx => ⟨hrise x hx, (hall x hx).2⟩, hp, hl⟩

/-- Step 3 of R49: 1 to 8 bands, every field in its range, the ceilings rising strictly to 1000. -/
theorem profileInRange_iff (bands : List Band) :
    profileInRange bands = true ↔ 1 ≤ bands.length ∧ bands.length ≤ 8
      ∧ (∀ b ∈ bands, 1 ≤ b.ceiling ∧ b.ceiling ≤ 1000 ∧ 1 ≤ b.rise ∧ b.rise ≤ 200 ∧ 1 ≤ b.fall ∧ b.fall ≤ 200)
      ∧ (bands.map Band.ceiling).Pairwise (· < ·) ∧ (bands.map Band.ceiling).getLast? = some 1000 := by
  have hsteps : bands.all stepsInRange = true ↔ ∀ b ∈ bands, 1 ≤ b.rise ∧ b.rise ≤ 200 ∧ 1 ≤ b.fall ∧ b.fall ≤ 200 := by
    simp [stepsInRange, and_assoc]
  cases bands with
  | nil => simp [profileInRange]
  | cons b rest =>
    simp only [profileInRange, Bool.and_eq_true, decide_eq_true_eq, hsteps, ceilingsRise_iff 0 b rest]
    constructor
    · rintro ⟨⟨⟨h1, h8⟩, hc, hp, hl⟩, hs⟩
      exact ⟨h1, h8, fun x hx => ⟨(hc x hx).1, (hc x hx).2, hs x hx⟩, hp, hl⟩
    · rintro ⟨h1, h8, hall, hp, hl⟩
      exact ⟨⟨⟨h1, h8⟩, fun x hx => ⟨(hall x hx).1, (hall x hx).2.1⟩, hp, hl⟩, fun x hx => (hall x hx).2.2⟩

section Profile
variable (profile count : Byte) (bands : List (Half × Byte × Byte)) (s : State)

/-- The octets of the bands of a Load Ramp Profile, four for each (Table 11-5). -/
def bandOctets : List Byte := bands.flatMap fun b => octets16 b.1 ++ [b.2.1, b.2.2]

/-- The bands that they spell. -/
def spelledBands : List Band := bands.map fun b => ⟨b.1.toNat, b.2.1.toNat, b.2.2.toNat⟩

theorem bandOctets_cons (b : Half × Byte × Byte) (rest : List (Half × Byte × Byte)) :
    bandOctets (b :: rest) = hi b.1 :: lo b.1 :: b.2.1 :: b.2.2 :: bandOctets rest := rfl

theorem bandsOf_bandOctets : bandsOf (bandOctets bands) = spelledBands bands := by
  induction bands with
  | nil => rfl
  | cons b rest ih => simp [bandOctets_cons, bandsOf, ih, spelledBands]

theorem length_bandOctets : (bandOctets bands).length = 4 * bands.length := by
  induction bands with
  | nil => rfl
  | cons b rest ih =>
    simp only [bandOctets_cons, List.length_cons, ih]
    omega

/-- Step 1 of R49. -/
theorem answerRampProfile_badIndex (h : 4 ≤ profile.toNat) :
    answerRampProfile (profile :: count :: bandOctets bands) s = refuse .badIndex s := by
  simp only [answerRampProfile, quadOf_none profile h]

variable (i : Fin 4) (hi : profile.toNat = i.val)
include hi

/-- Steps 2 and 3 of R49. -/
theorem answerRampProfile_of :
    answerRampProfile (profile :: count :: bandOctets bands) s =
      if bands.length = count.toNat then
        if profileInRange (spelledBands bands) then
          carried { s with bd := { s.bd with profiles := s.bd.profiles.set i (spelledBands bands) } }
        else refuse .badTable s
      else refuse .badLength s := by
  have hcount : 4 * bands.length = 4 * count.toNat ↔ bands.length = count.toNat := by omega
  simp only [answerRampProfile, quadOf_of_toNat profile i hi, length_bandOctets, hcount, bandsOf_bandOctets]

theorem answerRampProfile_badLength (h : bands.length ≠ count.toNat) :
    answerRampProfile (profile :: count :: bandOctets bands) s = refuse .badLength s := by
  rw [answerRampProfile_of profile count bands s i hi, if_neg h]

variable (h : bands.length = count.toNat)
include h

theorem answerRampProfile_badTable (hr : ¬ profileInRange (spelledBands bands) = true) :
    answerRampProfile (profile :: count :: bandOctets bands) s = refuse .badTable s := by
  rw [answerRampProfile_of profile count bands s i hi, if_pos h, if_neg hr]

theorem answerRampProfile_loaded (hr : profileInRange (spelledBands bands) = true) :
    answerRampProfile (profile :: count :: bandOctets bands) s =
      carried { s with bd := { s.bd with profiles := s.bd.profiles.set i (spelledBands bands) } } := by
  rw [answerRampProfile_of profile count bands s i hi, if_pos h, if_pos hr]

end Profile

/-- Settles O42: the three tables in turn, each by its checks in the order of its rule and the table it loads. -/
theorem tableLoads : Obligations.TableLoads := by
  unfold Obligations.TableLoads
  refine ⟨?curve, ?cls, ?profile⟩
  case curve =>
    intro tag points s hr
    have answered (hlen : points.length = 17) (a : Answer) (ha : answerFanCurve (points.flatMap octets16) s = a) :
        exec (.loadFanCurve tag points) s = .next (replyWith tag 0x05#8 a.status a.data a.state) :=
      taken tag 0x05#8 _ .loadFanCurve hr ha rfl ((lengthHolds_fanCurve points).trans (decide_eq_true hlen))
    refine ⟨fun hlen => ?_, fun hlen ⟨p, hp, hbig⟩ => ?_, fun hlen hall => ?_⟩
    · exact taken_badLength tag 0x05#8 _ .loadFanCurve hr rfl ((lengthHolds_fanCurve points).trans (decide_eq_false hlen))
    · exact answered hlen _ (answerFanCurve_badTable points s fun hall => absurd (hall p hp) (by omega))
    · exact answered hlen _ (answerFanCurve_loaded points s hall)
  case cls =>
    rintro tag number f s new inRange hr rfl hrange
    have hin : inRange ↔ classInRange (spelledClass f) = true := hrange.trans (classInRange_iff (spelledClass f)).symm
    have answered (a : Answer) (ha : answerFilterClass (number :: classOctets f) s = a) :
        exec (.loadFilterClass tag number f) s = .next (replyWith tag 0x07#8 a.status a.data a.state) :=
      taken tag 0x07#8 (number :: classOctets f) .loadFilterClass hr ha rfl rfl
    refine ⟨fun h => answered _ (answerFilterClass_badIndex number f s h), fun i hi => ⟨fun h => ?_, fun h hb => ?_,
      fun h hp hf => ?_⟩⟩
    · exact answered _ (answerFilterClass_badTable number f s i hi (Bool.not_eq_true _ ▸ mt hin.mpr h))
    · exact answered _ (answerFilterClass_busy number f s i hi (hin.mp h) hb)
    · exact answered _ (answerFilterClass_loaded number f s i hi (hin.mp h) hp hf)
  case profile =>
    rintro tag profile count bands s new inRange hr rfl hrange
    have hin : inRange ↔ profileInRange (spelledBands bands) = true :=
      hrange.trans (profileInRange_iff (spelledBands bands)).symm
    have answered (a : Answer) (ha : answerRampProfile (profile :: count :: bandOctets bands) s = a) :
        exec (.loadRampProfile tag profile count bands) s = .next (replyWith tag 0x06#8 a.status a.data a.state) :=
      taken tag 0x06#8 (profile :: count :: bandOctets bands) .loadRampProfile hr ha rfl rfl
    refine ⟨fun h => answered _ (answerRampProfile_badIndex profile count bands s h), fun i hi => ⟨fun hl => ?_,
      fun hl h => ?_, fun hl h => ?_⟩⟩
    · exact answered _ (answerRampProfile_badLength profile count bands s i hi hl)
    · exact answered _ (answerRampProfile_badTable profile count bands s i hi hl (mt hin.mpr h))
    · exact answered _ (answerRampProfile_loaded profile count bands s i hi hl (hin.mp h))

end Sys2Proof.Machine


/-! Filter Replaced, Set Mode, the clears and Restart. -/
namespace Sys2Proof.Machine

/-! ### Filter Replaced (R111) -/

section Replaced
variable (stage number : Byte) (stamp : Word) (s : State)

/-- The fields of Filter Replaced after its number (Table 11-5). -/
def replacedFields : List Byte := [stage, number] ++ octets32 stamp

theorem answerFilterReplaced_badStage (h1 : stage ≠ 1#8) (h2 : stage ≠ 2#8) :
    answerFilterReplaced (replacedFields stage number stamp) s = refuse .badIndex s :=
  if_neg (not_or.mpr ⟨h1, h2⟩)

variable (h : stage = 1#8 ∨ stage = 2#8)
include h

theorem answerFilterReplaced_badClass (hn : 4 ≤ number.toNat) :
    answerFilterReplaced (replacedFields stage number stamp) s = refuse .badIndex s := by
  have hclass : quadOf (byteAt 1 (replacedFields stage number stamp)) = none := quadOf_none number hn
  refine (if_pos h).trans ?_
  rw [hclass]

theorem answerFilterReplaced_stage (c : Fin 4) (hn : number.toNat = c.val) :
    answerFilterReplaced (replacedFields stage number stamp) s =
      carried (settle (replaceFilter (stage == 2#8) c stamp s.fs).2
        { s with fs := (replaceFilter (stage == 2#8) c stamp s.fs).1 }) := by
  have hclass : quadOf (byteAt 1 (replacedFields stage number stamp)) = some c := quadOf_of_toNat number c hn
  have hstamp : wordAt 2 (replacedFields stage number stamp) = stamp := by simp [replacedFields, octets32]
  refine (if_pos h).trans ?_
  rw [hclass, hstamp]
  rfl

end Replaced

section ReplaceFilter
variable (c : Fin 4) (stamp : Word) (fs : Filters)

theorem replaceFilter_pre :
    replaceFilter false c stamp fs =
      ({ fs with pre := newAccount c stamp }, [.checkpoint (stageItem false (newAccount c stamp))]) := rfl

theorem replaceFilter_fine (h : fs.fine.state ≠ .missing) :
    replaceFilter true c stamp fs =
      ({ fs with fine := newAccount c stamp }, [.checkpoint (stageItem true (newAccount c stamp))]) := by
  simp [replaceFilter, checkpointStage, newAccount, h]

theorem replaceFilter_missing (h : fs.fine.state = .missing) :
    replaceFilter true c stamp fs =
      ({ fs with fine := newAccount c stamp },
        [.checkpoint (stageItem true (newAccount c stamp)), .filterMissing false]) := by
  simp [replaceFilter, checkpointStage, newAccount, h]

end ReplaceFilter

/-- Settles O41: the two checks, then the new account of each stage with what it delivers. -/
theorem filterReplaced : Obligations.FilterReplaced := by
  unfold Obligations.FilterReplaced
  intro tag stage number stamp s hr
  have answered (a : Answer) (ha : answerFilterReplaced (replacedFields stage number stamp) s = a) :
      exec (.filterReplaced tag stage number stamp) s = .next (replyWith tag 0x11#8 a.status a.data a.state) :=
    taken tag 0x11#8 (replacedFields stage number stamp) .filterReplaced hr ha rfl rfl
  refine ⟨fun h1 h2 => answered _ (answerFilterReplaced_badStage stage number stamp s h1 h2),
    fun h hn => answered _ (answerFilterReplaced_badClass stage number stamp s h hn), ?accounts⟩
  rintro c account hn rfl
  refine ⟨?pre, ?fine, ?missing⟩
  case pre =>
    rintro rfl
    refine answered (carried _) ((answerFilterReplaced_stage _ number stamp s (.inl rfl) c hn).trans ?_)
    exact congrArg carried (settle_checkpoint _ _)
  case fine =>
    rintro rfl hm
    refine answered (carried _) ((answerFilterReplaced_stage _ number stamp s (.inr rfl) c hn).trans ?_)
    rw [show ((2#8 : Byte) == 2#8) = true from rfl, replaceFilter_fine c stamp s.fs hm]
    exact congrArg carried (settle_checkpoint _ _)
  case missing =>
    rintro rfl hm
    refine answered (carried _) ((answerFilterReplaced_stage _ number stamp s (.inr rfl) c hn).trans ?_)
    rw [show ((2#8 : Byte) == 2#8) = true from rfl, replaceFilter_missing c stamp s.fs hm]
    rfl

/-! ### Set Mode (R150) -/

section SetMode
variable (s : State)

/-- The fields of Set Mode after its number (Table 11-5). -/
def modeFields (mode : Byte) (source : Option Byte) : List Byte := mode :: source.toList

theorem modeOf_none (mode : Byte) (h : 4 < mode.toNat) : modeOf mode = none := by
  unfold modeOf
  split
  case h_6 => rfl
  all_goals omega

theorem sourceOf_none (source : Byte) (h : 1 < source.toNat) : sourceOf source = none := by
  unfold sourceOf
  split
  case h_3 => rfl
  all_goals omega

/-- The code 4 is Service's alone. -/
theorem modeOf_service_iff (mode : Byte) : modeOf mode = some .service ↔ mode = 4#8 := by
  constructor
  · intro h
    unfold modeOf at h
    split at h
    case h_5 => bv_omega
    all_goals cases h
  · rintro rfl
    rfl

theorem answerSetMode_source {mode source : Byte} (h : mode ≠ 4#8) :
    answerSetMode (modeFields mode (some source)) s = refuse .badLength s := by
  have hm := mt (modeOf_service_iff mode).mp h
  simp only [modeFields, Option.toList, answerSetMode]

theorem answerSetMode_serviceAlone : answerSetMode (modeFields 4#8 none) s = refuse .badLength s := rfl

theorem answerSetMode_badMode {mode : Byte} (h : 4 < mode.toNat) :
    answerSetMode (modeFields mode none) s = refuse .badTable s := by
  simp only [modeFields, Option.toList, answerSetMode, modeOf_none mode h]

theorem answerSetMode_badSource {source : Byte} (h : 1 < source.toNat) :
    answerSetMode (modeFields 4#8 (some source)) s = refuse .badTable s := by
  simp only [modeFields, Option.toList, answerSetMode, sourceOf_none source h]
  rfl

/-- A mode and source that Set Mode may name are taken (R150). -/
theorem answerSetMode_taken {source : Option Byte} {new : UnitMode} {src : ServiceSource}
    (h : (new = .service ∧ source = some (sourceCode src)) ∨ (new ≠ .service ∧ source = none ∧ src = .line)) :
    answerSetMode (modeFields (modeCode new) source) s = carried (takeMode new src s) := by
  obtain ⟨rfl, rfl⟩ | ⟨hn, rfl, rfl⟩ := h
  · cases src <;> rfl
  · cases new with
    | service => exact absurd rfl hn
    | off | run | quiet | standby => rfl

theorem takeMode_change {new : UnitMode} {src : ServiceSource} (h : new ≠ s.mc.mode) :
    takeMode new src s = changeMode new src s := if_pos h

theorem takeMode_source {src : ServiceSource} (hm : .service = s.mc.mode) (hs : src ≠ s.mc.source) :
    takeMode .service src s =
      settle [.sourceChange s.mc.source src] { s with mc := { s.mc with source := src } } := by
  simp [takeMode, hm, hs]

theorem takeMode_same {new : UnitMode} {src : ServiceSource} (hm : new = s.mc.mode) (hoff : new ≠ .off)
    (hs : new ≠ .service ∨ src = s.mc.source) : takeMode new src s = s := by
  have hsource : ¬ (new = .service ∧ src ≠ s.mc.source) := by
    rintro ⟨h1, h2⟩
    exact hs.elim (absurd h1) h2
  rw [takeMode, if_neg (not_not.mpr hm), if_neg hsource, if_neg hoff]

theorem takeMode_off {src : ServiceSource} (hm : .off = s.mc.mode) : takeMode .off src s = settle [.setModeOff] s := by
  simp [takeMode, hm.symm]

/-- Set Mode to Off while in Off, at a blower that is not faulted: the retry count returns to 0 (R61). -/
theorem settle_setModeOff (h : s.bd.state ≠ .fault) :
    settle [.setModeOff] s = { s with bd := { s.bd with retryCount := 0 } } := by
  have hoff : blowerOffRequested s.bd = ({ s.bd with retryCount := 0 }, []) := if_neg h
  rw [settle_cons]
  simp only [route, hoff, List.nil_append, settleChain_nil]

theorem route_setModeOff_fault (h : s.bd.state = .fault) :
    route .setModeOff s = ({ s with bd := { s.bd with state := .stopped, retryCount := 0 } }, [.blowerFaulted false]) := by
  have hoff : blowerOffRequested s.bd = ({ s.bd with state := .stopped, retryCount := 0 }, [.blowerFaulted false]) :=
    if_pos h
  simp only [route, hoff]

end SetMode

/-- Settles O44: the checks of the length, the mode and the source, then the four outcomes. -/
theorem setMode : Obligations.SetMode := by
  unfold Obligations.SetMode
  intro tag mode source s hr
  have answered (a : Answer) (ha : answerSetMode (modeFields mode source) s = a) :
      exec (.setMode tag mode source) s = .next (replyWith tag 0x01#8 a.status a.data a.state) :=
    taken tag 0x01#8 (modeFields mode source) .setMode hr ha rfl rfl
  refine ⟨?badLength, ?badMode, ?badSource, ?known⟩
  case badLength =>
    rintro (⟨hm, hs⟩ | ⟨rfl, rfl⟩)
    · obtain ⟨b, rfl⟩ := Option.ne_none_iff_exists'.mp hs
      exact answered _ (answerSetMode_source s hm)
    · exact answered _ (answerSetMode_serviceAlone s)
  case badMode =>
    rintro hm rfl
    exact answered _ (answerSetMode_badMode s hm)
  case badSource =>
    rintro b rfl rfl hb
    exact answered _ (answerSetMode_badSource s hb)
  case known =>
    rintro new src off record rfl hnamed rfl rfl
    have given {t : State} (ht : takeMode new src s = t) :
        exec (.setMode tag (modeCode new) source) s = .next (replyWith tag 0x01#8 .done [] t) :=
      answered (carried t) ((answerSetMode_taken s hnamed).trans (congrArg carried ht))
    refine ⟨fun hm => given (takeMode_change s hm), ?source, fun hm hoff hs => given (takeMode_same s hm hoff hs),
      ?off, ?fault⟩
    case source =>
      rintro hm rfl hs
      exact given (takeMode_source s hm hs)
    case off =>
      rintro hm rfl hf
      exact given ((takeMode_off s hm).trans (settle_setModeOff s hf))
    case fault =>
      rintro hm rfl hf
      exact ⟨given (takeMode_off s hm), route_setModeOff_fault s hf⟩

/-! ### The clears and Restart (R132, R144, R170, R173) -/

section Clears
variable (s : State)

theorem answerClearLockout_badMode (h : s.mc.mode ≠ .off) : answerClearLockout s = refuse .badMode s := if_neg h

theorem answerClearLockout_open (hm : s.mc.mode = .off) (hs : s.ds.state ≠ .lockout) :
    answerClearLockout s = carried s := by
  have hclear : clearLockout s.mc.settings.coilMinimum s.ds = (s.ds, []) := if_neg hs
  refine (if_pos hm).trans ?_
  rw [hclear]
  rfl

/-- In Off no start condition holds, so a Lockout that is cleared ends in Idle (R132). -/
theorem clearLockout_inOff (c : Nat) {ds : Sequencer} (hs : ds.state = .lockout) (hm : ds.mode = .off) :
    clearLockout c ds = ({ ds with state := .idle, timeouts := 0 }, []) := by
  simp [clearLockout, hs, goIdle, evaluateIdle, startConditions, hm, runMode, dryingStates]

theorem answerClearLockout_locked (hm : s.mc.mode = .off) (hs : s.ds.state = .lockout) (hd : s.ds.mode = .off) :
    answerClearLockout s = carried { s with ds := { s.ds with state := .idle, timeouts := 0 } } := by
  refine (if_pos hm).trans ?_
  rw [clearLockout_inOff s.mc.settings.coilMinimum hs hd]
  rfl

end Clears

section Pump
variable {fitted : Bool} {mode : UnitMode} {tm : Tank}

theorem pumpLevel_iff {level : TankLevel} : pumpLevel level = true ↔ level = .high ∨ level = .full := by
  cases level <;> decide

theorem checkPump_starts (hp : tm.pump = .off) (hf : fitted = true) (hm : mode ≠ .service)
    (hl : tm.level = .high ∨ tm.level = .full) : checkPump fitted mode tm = startRun false tm :=
  if_pos ⟨hp, hf, hm, pumpLevel_iff.mpr hl⟩

theorem checkPump_rests (h : fitted = false ∨ mode = .service ∨ (tm.level ≠ .high ∧ tm.level ≠ .full)) :
    checkPump fitted mode tm = tm := by
  refine if_neg ?_
  rintro ⟨-, rfl, hm, hl⟩
  obtain hf | hs | ⟨hhigh, hfull⟩ := h
  · cases hf
  · exact hm hs
  · exact (pumpLevel_iff.mp hl).elim hhigh hfull

theorem clearPumpFault_none (h : tm.pump ≠ .fault) : clearPumpFault fitted mode tm = tm := if_neg h

theorem clearPumpFault_fault (h : tm.pump = .fault) :
    clearPumpFault fitted mode tm = checkPump fitted mode { tm with pump := .off, timeouts := 0 } := if_pos h

end Pump

section Kinds
variable (bits : BitVec 24) (s : State)

/-- The three octets of a mask or a set of kinds give it back. -/
theorem triple_octets24 :
    triple (byteAt 0 (octets24 bits)) (byteAt 1 (octets24 bits)) (byteAt 2 (octets24 bits)) = bits :=
  triple_octets bits

theorem answerNoticeMask_of :
    answerNoticeMask (octets24 bits) s =
      if bits &&& 0xFC0000#24 ≠ 0#24 then refuse .badTable s
      else carried { s with pl := pump { s.pl with mask := bits } } := by
  simp only [answerNoticeMask, triple_octets24]

theorem answerClearNotices_of :
    answerClearNotices (octets24 bits) s =
      if bits &&& 0xFC0000#24 ≠ 0#24 then refuse .badTable s
      else carried { s with pl := { s.pl with pending := s.pl.pending.filter (fun e => unmasked bits e.kind) } } := by
  simp only [answerClearNotices, triple_octets24]

variable {s} (tag : Byte) (hr : linkReady s.pl = true)
include hr

theorem exec_setNoticeMask_ready {a : Answer} (ha : answerNoticeMask (octets24 bits) s = a) :
    exec (.setNoticeMask tag bits) s = .next (replyWith tag 0x13#8 a.status a.data a.state) :=
  taken tag 0x13#8 (octets24 bits) .setNoticeMask hr ha rfl rfl

theorem exec_clearNotices_ready {a : Answer} (ha : answerClearNotices (octets24 bits) s = a) :
    exec (.clearNotices tag bits) s = .next (replyWith tag 0x14#8 a.status a.data a.state) :=
  taken tag 0x14#8 (octets24 bits) .clearNotices hr ha rfl rfl

end Kinds

/-- Settles O58: each request by the state it finds. -/
theorem clearsAndRestart : Obligations.ClearsAndRestart := by
  unfold Obligations.ClearsAndRestart
  intro tag s hr
  have lockout (a : Answer) (ha : answerClearLockout s = a) :
      exec (.clearLockout tag) s = .next (replyWith tag 0x15#8 a.status a.data a.state) :=
    taken tag 0x15#8 [] .clearLockout hr ha rfl rfl
  have pumpFault (tm : Tank) (ht : clearPumpFault s.mc.settings.pumpFitted s.mc.mode s.tm = tm) :
      exec (.clearPumpFault tag) s = .next (replyWith tag 0x16#8 .done [] { s with tm := tm }) :=
    taken (a := carried { s with tm := tm }) tag 0x16#8 [] .clearPumpFault hr
      (congrArg (fun tm => carried { s with tm := tm }) ht) rfl rfl
  refine ⟨fun hm => lockout _ (answerClearLockout_badMode s hm),
    fun hm hs => lockout _ (answerClearLockout_open s hm hs),
    fun hm hs hd => lockout _ (answerClearLockout_locked s hm hs hd),
    fun hp => pumpFault s.tm (clearPumpFault_none hp),
    fun hp hf hm hl => pumpFault _ ((clearPumpFault_fault hp).trans (checkPump_starts rfl hf hm hl)),
    fun hp h => pumpFault _ ((clearPumpFault_fault hp).trans (checkPump_rests h)),
    taken (a := answerRestart s) tag 0x1C#8 [] .restart hr rfl rfl rfl,
    fun bits => ⟨fun hbad => ⟨?_, ?_⟩, fun hgood => ⟨?_, ?_⟩⟩⟩
  · exact exec_setNoticeMask_ready bits tag hr ((answerNoticeMask_of bits s).trans (if_pos hbad))
  · exact exec_clearNotices_ready bits tag hr ((answerClearNotices_of bits s).trans (if_pos hbad))
  · exact exec_setNoticeMask_ready bits tag hr ((answerNoticeMask_of bits s).trans (if_neg (not_not.mpr hgood)))
  · exact exec_clearNotices_ready bits tag hr ((answerClearNotices_of bits s).trans (if_neg (not_not.mpr hgood)))

end Sys2Proof.Machine


/-! The reads (Table 11-5, Table 11-6): Read Node, Zone, Stage, Finish Causes and Counters, Read Table and Read Status. -/
namespace Sys2Proof.Machine

/-! ### The reads of a record (R19, R28, R62, R105) -/

theorem presenceBit_zero (b : Bool) : presenceBit 0 b = if b then 1#8 else 0#8 := by cases b <;> rfl
theorem presenceBit_one (b : Bool) : presenceBit 1 b = if b then 2#8 else 0#8 := by cases b <;> rfl
theorem presenceBit_two (b : Bool) : presenceBit 2 b = if b then 4#8 else 0#8 := by cases b <;> rfl

theorem timeOctets_length (n k : Nat) (t : Option Word) : (timeOctets n k t).length = 4 := by cases t <;> rfl

theorem timeOctets_some {t : Option Word} {x : Word} (n k : Nat) (h : t = some x) : timeOctets n k t = octets32 x := by
  rw [h]
  rfl

section Reads
variable (s : State)

theorem answerReadNode_none {address : Byte} (h : findNode address.toNat s.iu.nodes = none) :
    answerReadNode [address] s = refuse .badIndex s := by
  simp [answerReadNode, h]

theorem answerReadNode_some {address : Byte} {r : NodeRecord} (h : findNode address.toNat s.iu.nodes = some r) :
    answerReadNode [address] s = ⟨.done, nodeData s.freeUsed r, { s with freeUsed := s.freeUsed + 1 }⟩ := by
  simp [answerReadNode, h]

theorem answerReadZone_badIndex {zone : Byte} (h : 6 ≤ zone.toNat) : answerReadZone [zone] s = refuse .badIndex s := by
  simp [answerReadZone, sixOf_none zone h]

theorem answerReadZone_zone {zone : Byte} {i : Fin 6} (h : zone.toNat = i.val) :
    answerReadZone [zone] s =
      ⟨.done, zoneData s.freeUsed i (s.dmu.zones.get i), { s with freeUsed := s.freeUsed + 1 }⟩ := by
  simp [answerReadZone, sixOf_of_toNat zone i h]

theorem answerReadStage_badIndex {stage : Byte} (h1 : stage ≠ 1#8) (h2 : stage ≠ 2#8) :
    answerReadStage [stage] s = refuse .badIndex s := by
  simp [answerReadStage, h1, h2]

theorem answerReadStage_pre :
    answerReadStage [1#8] s = ⟨.done, stageOctets s.freeUsed false s.fs.pre s.du, { s with freeUsed := s.freeUsed + 1 }⟩ :=
  rfl

theorem answerReadStage_fine :
    answerReadStage [2#8] s = ⟨.done, stageOctets s.freeUsed true s.fs.fine s.du, { s with freeUsed := s.freeUsed + 1 }⟩ :=
  rfl

/-- The fifteen octets of an airflow record, free where there is none (log 13). -/
def airflowRecordOctets (n : Nat) (air : Option AirflowRecord) : List Byte := (airflowOctets n air).drop 1

theorem airflowOctets_eq (n : Nat) (air : Option AirflowRecord) :
    airflowOctets n air = [boolCode air.isSome] ++ airflowRecordOctets n air := by
  cases air <;> rfl

theorem airflowRecordOctets_length (n : Nat) (air : Option AirflowRecord) : (airflowRecordOctets n air).length = 15 := by
  cases air <;> rfl

theorem airflowRecordOctets_some {air : Option AirflowRecord} {a : AirflowRecord} (n : Nat) (h : air = some a) :
    airflowRecordOctets n air = octets32 a.stamp ++ nat16 a.speed ++ nat16 a.free ++ nat16 a.restriction
      ++ nat16 a.airflow ++ nat16 a.interval ++ [boolCode a.clamped] := by
  rw [h]
  rfl

end Reads

/-- Settles O59: each read by the record it names, the free octets it returns as the witness. -/
theorem readRequests : Obligations.ReadRequests := by
  unfold Obligations.ReadRequests
  rintro tag s drawn hr rfl
  refine ⟨fun address => ?node, fun zone => ?zone, fun stage => ?stage, ?causes, ?counters⟩
  case node =>
    have answered (a : Answer) (ha : answerReadNode [address] s = a) :
        exec (.readNode tag address) s = .next (replyWith tag 0x0C#8 a.status a.data a.state) :=
      taken tag 0x0C#8 [address] .readNode hr ha rfl rfl
    refine ⟨fun h => answered _ (answerReadNode_none s h), fun r h => ⟨timeOctets s.freeUsed 0 r.lastAccept,
      timeOctets_length _ _ _, fun t ht => timeOctets_some _ _ ht, ?_⟩⟩
    rw [answered _ (answerReadNode_some s h)]
    simp only [nodeData, presenceBit_zero, presenceBit_one, presenceBit_two, optOctet_eq, readingOctets]
  case zone =>
    have answered (a : Answer) (ha : answerReadZone [zone] s = a) :
        exec (.readZone tag zone) s = .next (replyWith tag 0x0D#8 a.status a.data a.state) :=
      taken tag 0x0D#8 [zone] .readZone hr ha rfl rfl
    refine ⟨fun h => answered _ (answerReadZone_badIndex s h), ?_⟩
    rintro i z hi rfl
    refine ⟨timeOctets s.freeUsed 0 (s.dmu.zones.get i).lastAccept, timeOctets s.freeUsed 4 (s.dmu.zones.get i).holdExpiry,
      timeOctets_length _ _ _, timeOctets_length _ _ _, fun t ht => timeOctets_some _ _ ht,
      fun t ht => timeOctets_some _ _ ht, ?_⟩
    have hzone : octet i.val = zone := by rw [← hi, octet_toNat]
    rw [answered _ (answerReadZone_zone s hi)]
    simp only [zoneData, zoneEntryOctets, hzone, presenceBit_zero, presenceBit_one, List.append_assoc, List.cons_append,
      List.nil_append]
  case stage =>
    have answered (a : Answer) (ha : answerReadStage [stage] s = a) :
        exec (.readStage tag stage) s = .next (replyWith tag 0x0E#8 a.status a.data a.state) :=
      taken tag 0x0E#8 [stage] .readStage hr ha rfl rfl
    refine ⟨fun h1 h2 => answered _ (answerReadStage_badIndex s h1 h2), fun r absent present h =>
      ⟨airflowRecordOctets s.freeUsed s.du.airflow, airflowRecordOctets_length _ _,
        fun a ha => airflowRecordOctets_some _ ha, ?_⟩⟩
    obtain ⟨rfl, rfl, rfl, rfl⟩ | ⟨rfl, rfl, rfl, rfl⟩ := h
    · rw [answered _ (answerReadStage_pre s), stageOctets, airflowOctets_eq]
      simp [octet]
    · rw [answered _ (answerReadStage_fine s), stageOctets, airflowOctets_eq]
      simp
  case causes => exact taken (a := answerFinishCauses s) tag 0x0F#8 [] .readFinishCauses hr rfl rfl rfl
  case counters => exact taken (a := answerReadCounters s) tag 0x10#8 [] .readCounters hr rfl rfl rfl

/-! ### Read Table (R175) -/

section Table
variable (s : State)

/-- The answer of Read Table that returns a table after its selector and index. -/
def tableAnswer (selector index : Byte) (table : List Byte) : Answer := ⟨.done, [selector, index] ++ table, s⟩

theorem answerReadTable_badTable {selector index : Byte} (h : 5 < selector.toNat) :
    answerReadTable [selector, index] s = refuse .badTable s := by
  simp only [answerReadTable, byteAt_zero]
  split
  case h_7 => rfl
  all_goals omega

theorem answerReadTable_pollList (index : Byte) :
    answerReadTable [0#8, index] s = tableAnswer s 0#8 index (pollListOctets s.iu.pollList) := rfl

theorem answerReadTable_curve (index : Byte) :
    answerReadTable [1#8, index] s = tableAnswer s 1#8 index (s.du.curve.flatMap nat16) := rfl

theorem answerReadTable_settings (index : Byte) :
    answerReadTable [5#8, index] s = tableAnswer s 5#8 index (settingsRecordOctets s.mc.settings) := rfl

theorem answerReadTable_noQuad {selector index : Byte} (hs : selector = 2#8 ∨ selector = 3#8) (h : 4 ≤ index.toNat) :
    answerReadTable [selector, index] s = refuse .badIndex s := by
  obtain rfl | rfl := hs <;> simp [answerReadTable, quadOf_none index h]

theorem answerReadTable_noDamper {index : Byte} (h : 6 ≤ index.toNat) :
    answerReadTable [4#8, index] s = refuse .badIndex s := by
  simp [answerReadTable, sixOf_none index h]

theorem answerReadTable_profile {index : Byte} {i : Fin 4} (h : index.toNat = i.val) :
    answerReadTable [2#8, index] s = tableAnswer s 2#8 index (profileOctets (s.bd.profiles.get i)) := by
  simp [answerReadTable, quadOf_of_toNat index i h, tableAnswer]

theorem answerReadTable_class {index : Byte} {i : Fin 4} (h : index.toNat = i.val) :
    answerReadTable [3#8, index] s = tableAnswer s 3#8 index (filterClassOctets (s.fs.classes.get i)) := by
  simp [answerReadTable, quadOf_of_toNat index i h, tableAnswer]

theorem answerReadTable_damper {index : Byte} {i : Fin 6} (h : index.toNat = i.val) :
    answerReadTable [4#8, index] s = tableAnswer s 4#8 index (damperEntryOctets (s.dp.dampers.get i).entry) := by
  simp [answerReadTable, sixOf_of_toNat index i h, tableAnswer]

end Table

/-! ### Read Status (R174) -/

section Status
variable (s : State)

theorem answerReadStatus_badIndex {page : Byte} (h : 4 < page.toNat) :
    answerReadStatus [page] s = refuse .badIndex s := by
  simp only [answerReadStatus, byteAt_zero]
  split
  case h_6 => rfl
  all_goals omega

theorem answerReadStatus_page0 :
    answerReadStatus [0x00#8] s = ⟨.done, 0x00#8 :: statusPage0 s,
      { s with pl := { s.pl with overrun := false, errorStatus := .done, errorRequest := 0#8 } }⟩ := rfl

theorem answerReadStatus_page1 : answerReadStatus [0x01#8] s = ⟨.done, 0x01#8 :: statusPage1 s, s⟩ := rfl

theorem answerReadStatus_page2 :
    answerReadStatus [0x02#8] s = ⟨.done, 0x02#8 :: (damperOctets s.dp.dampers.z0 ++ damperOctets s.dp.dampers.z1
      ++ damperOctets s.dp.dampers.z2), s⟩ := rfl

theorem answerReadStatus_page3 :
    answerReadStatus [0x03#8] s = ⟨.done, 0x03#8 :: (damperOctets s.dp.dampers.z3 ++ damperOctets s.dp.dampers.z4
      ++ damperOctets s.dp.dampers.z5), s⟩ := rfl

theorem answerReadStatus_page4 :
    answerReadStatus [0x04#8] s = ⟨.done, 0x04#8 :: statusPage4 s, { s with freeUsed := s.freeUsed + 2 }⟩ := rfl

/-- A ready link has no Request waiting. -/
theorem requests_of_linkReady {pl : Panel} (h : linkReady pl = true) : pl.requests = [] := by
  simp only [linkReady, Bool.and_eq_true, List.isEmpty_iff] at h
  exact h.1

theorem optBool_eq {onOff : Option Bool → Byte} (hsome : ∀ b, onOff (some b) = boolCode b) (hnone : onOff none = 0xFF#8)
    (o : Option Bool) : optBool o = onOff o := by
  cases o with
  | none => exact hnone.symm
  | some b => exact (hsome b).symm

theorem switchCode_eq {switch : Option Bool → Byte} (hopen : switch (some false) = 0#8) (hclosed : switch (some true) = 1#8)
    (hnone : switch none = 2#8) (o : Option Bool) : switchCode o = switch o := by
  obtain _ | _ | _ := o
  · exact hnone.symm
  · exact hopen.symm
  · exact hclosed.symm

theorem damperOctets_eq {line : Damper → List Byte}
    (h : ∀ d, line d = [damperStateCode d.state] ++ optNat16 d.position ++ optNat16 d.target ++ nat16 d.share
      ++ nat16 d.pending) (d : Damper) : damperOctets d = line d := (h d).symm

/-- The seconds that page 4 gives for a time left, at draw `n`: a part of a second dropped or counted whole (log 14). -/
def shownSeconds (n : Nat) (left : Option Nat) : Nat :=
  if leftOf left % 1000 = 0 then leftOf left / 1000
  else if Config.roundsUp n then leftOf left / 1000 + 1 else leftOf left / 1000

theorem secondsLeft_eq (n : Nat) (left : Option Nat) : secondsLeft n left = octet (shownSeconds n left) := rfl

theorem leftOf_eq_getD (left : Option Nat) : leftOf left = left.getD 0 := by cases left <;> rfl

theorem shownSeconds_rounds (n : Nat) (left : Option Nat) :
    shownSeconds n left = left.getD 0 / 1000 ∨ shownSeconds n left = (left.getD 0 + 999) / 1000 := by
  unfold shownSeconds
  rw [leftOf_eq_getD]
  split
  · exact .inl rfl
  · split
    · omega
    · exact .inl rfl

theorem pumpLeft_eq (tm : Tank) : pumpLeft tm = tm.maxRunLeft.or tm.restLeft := by
  unfold pumpLeft
  split
  next n h => rw [h]; rfl
  next h => rw [h]; rfl

end Status

/-- Settles O60: Read Table by its selector and index, Read Status page by page. -/
theorem tablesAndStatus : Obligations.TablesAndStatus := by
  unfold Obligations.TablesAndStatus
  intro tag s hr
  have status (page : Byte) {a : Answer} (ha : answerReadStatus [page] s = a) :
      exec (.readStatus tag page) s = .next (replyWith tag 0x0B#8 a.status a.data a.state) :=
    taken tag 0x0B#8 [page] .readStatus hr ha rfl rfl
  refine ⟨fun selector index answers hanswers => ?table, fun page h => status page (answerReadStatus_badIndex s h),
    fun onOff hsome hnone => ?page0, ?page1, fun line hline => ⟨?page2, ?page3⟩, fun switch hopen hclosed hnone => ?page4⟩
  case table =>
    have answered {a : Answer} (ha : answerReadTable [selector, index] s = a) :
        exec (.readTable tag selector index) s = .next (replyWith tag 0x0A#8 a.status a.data a.state) :=
      taken tag 0x0A#8 [selector, index] .readTable hr ha rfl rfl
    have returns {table : List Byte} (ha : answerReadTable [selector, index] s = tableAnswer s selector index table) :
        answers table := (hanswers table).mpr (answered ha)
    refine ⟨fun h => answered (answerReadTable_badTable s h), ?_, ?_,
      fun hs h => answered (answerReadTable_noQuad s hs h), fun i hi => ⟨?_, ?_⟩, ?_, ?_, ?_⟩
    · rintro rfl
      exact returns (answerReadTable_pollList s index)
    · rintro rfl
      exact returns (answerReadTable_curve s index)
    · rintro bands rfl rfl
      exact returns (answerReadTable_profile s hi)
    · rintro c rfl rfl
      exact returns (answerReadTable_class s hi)
    · rintro rfl h
      exact answered (answerReadTable_noDamper s h)
    · rintro i e rfl hi rfl
      exact returns (answerReadTable_damper s hi)
    · rintro u rfl rfl
      exact returns (answerReadTable_settings s index)
  case page0 =>
    rw [status 0x00#8 (answerReadStatus_page0 s)]
    simp only [statusPage0, optBool_eq hsome hnone, requests_of_linkReady hr]
    rfl
  case page1 =>
    rw [status 0x01#8 (answerReadStatus_page1 s), statusPage1, leftOf_eq_getD]
    rfl
  case page2 =>
    rw [status 0x02#8 (answerReadStatus_page2 s)]
    simp only [damperOctets_eq hline, List.cons_append, List.nil_append, List.append_assoc]
  case page3 =>
    rw [status 0x03#8 (answerReadStatus_page3 s)]
    simp only [damperOctets_eq hline, List.cons_append, List.nil_append, List.append_assoc]
  case page4 =>
    refine ⟨shownSeconds s.freeUsed s.tm.rearmLeft, shownSeconds (s.freeUsed + 1) (pumpLeft s.tm),
      shownSeconds_rounds _ _, pumpLeft_eq s.tm ▸ shownSeconds_rounds _ _, ?_⟩
    rw [status 0x04#8 (answerReadStatus_page4 s)]
    simp only [statusPage4, switchCode_eq hopen hclosed hnone, secondsLeft_eq, List.cons_append, List.nil_append]
    cases s.nvs.current with
    | none => rfl
    | some w => cases hw : w.item.target <;> simp [writingOctets, targetOctets, hw]

end Sys2Proof.Machine


/-! The drying sequencer, case by case: the evaluation in Idle, the deliveries in each state, and the six timers. -/
namespace Sys2Proof.Machine

/-! ### The start conditions and their evaluation (R119, R121, R123) -/

section Evaluate
variable {c : Nat} {ds : Sequencer}

theorem runMode_iff {mode : UnitMode} : runMode mode = true ↔ mode = .run ∨ mode = .quiet := by cases mode <;> decide

theorem restMode_iff {mode : UnitMode} : restMode mode = true ↔ mode = .off ∨ mode = .standby := by
  cases mode <;> decide

theorem coilCold_eq : coilCold ds = decide (∃ t, ds.coil = some t ∧ t ≤ 5) := by
  unfold coilCold
  split
  next t h => simp [h]
  next h => simp [h]

theorem start_fails_tank (h : ds.tankBlocked = true) : startConditions ds = false := by simp [startConditions, h]
theorem start_fails_coil (h : ds.coil = none) : startConditions ds = false := by simp [startConditions, h]
theorem start_fails_lost (h : ds.nodeLost = true) : startConditions ds = false := by simp [startConditions, h]
theorem start_fails_fault (h : ds.faulted = true) : startConditions ds = false := by simp [startConditions, h]
theorem start_fails_call (h : ds.call = false) : startConditions ds = false := by simp [startConditions, h]

theorem start_fails_mode (h : ds.mode = .off ∨ ds.mode = .standby ∨ ds.mode = .service) : startConditions ds = false := by
  obtain h | h | h := h <;> simp [startConditions, h, runMode]

/-- The start conditions ask of the state only that it is not Lockout. -/
theorem startConditions_withState {state : DsState} (h : ds.state ≠ .lockout) (h' : state ≠ .lockout) :
    startConditions { ds with state := state } = startConditions ds := by
  rw [Bool.eq_iff_iff, startConditions_iff, startConditions_iff]
  exact and_congr_right' (and_congr_right' (and_congr_right' (and_congr_right' (and_congr_right' (and_congr_right'
    (iff_of_true h' h))))))

theorem withState_self {state : DsState} (h : ds.state = state) : { ds with state := state } = ds := by
  subst h
  rfl

theorem evaluateIdle_fails (h : startConditions ds = false) : evaluateIdle c ds = (ds, []) := if_neg (by simp [h])

theorem evaluateIdle_waits {n : Nat} (h : startConditions ds = true) (ho : ds.offLeft = some n) :
    evaluateIdle c ds = ({ ds with state := .readyWait }, []) :=
  (if_pos h).trans (if_pos (by simp [ho]))

theorem evaluateIdle_enters (h : startConditions ds = true) (ho : ds.offLeft = none) :
    evaluateIdle c ds = enterAirflowWait c ds :=
  (if_pos h).trans (if_neg (by simp [ho]))

theorem enterAirflowWait_waits (h : ds.applied < c) :
    enterAirflowWait c ds = ({ ds with state := .airflowWait, airflowWaitLeft := some 30000 }, [.dryingActive true]) :=
  congrArg (·, [Signal.dryingActive true]) (if_neg (Nat.not_le.mpr h))

theorem enterAirflowWait_runs (h : c ≤ ds.applied) :
    enterAirflowWait c ds = ({ ds with
      state := .running, compressor := true, airflowWaitLeft := none, onLeft := some 120000
      frostLeft := if coilCold ds then some 60000 else none }, [.dryingActive true]) :=
  congrArg (·, [Signal.dryingActive true]) (if_pos h)

/-- Entry to Airflow-Wait sets the state, whatever it was. -/
theorem enterAirflowWait_withState (state : DsState) : enterAirflowWait c { ds with state := state } = enterAirflowWait c ds :=
  rfl

theorem goIdle_eq :
    goIdle c ds = ((evaluateIdle c { ds with state := .idle }).1,
      (if dryingStates ds.state then [.dryingActive false] else []) ++ (evaluateIdle c { ds with state := .idle }).2) := rfl

/-- Idle is entered where the start conditions fail: nothing but the state changes (R119, R122). -/
theorem goIdle_rests (h : startConditions { ds with state := .idle } = false) :
    goIdle c ds = ({ ds with state := .idle }, if dryingStates ds.state then [.dryingActive false] else []) := by
  rw [goIdle_eq, evaluateIdle_fails h]
  exact congrArg ({ ds with state := .idle }, ·) (List.append_nil _)

/-- Idle is entered where the start conditions hold and the off timer runs: Ready-Wait at once (log 16). -/
theorem goIdle_waits {n : Nat} (h : startConditions { ds with state := .idle } = true) (ho : ds.offLeft = some n) :
    goIdle c ds = ({ ds with state := .readyWait }, if dryingStates ds.state then [.dryingActive false] else []) := by
  rw [goIdle_eq, evaluateIdle_waits h ho]
  exact congrArg ({ ds with state := .readyWait }, ·) (List.append_nil _)

/-- The state that Idle entered with the off timer running ends in (R119, log 16). -/
def landing (ds : Sequencer) : DsState := if startConditions ds then .readyWait else .idle

theorem landing_rests (h : startConditions ds = false) : landing ds = .idle := if_neg (by simp [h])

theorem goIdle_lands {n : Nat} (hs : ds.state ≠ .lockout) (ho : ds.offLeft = some n) :
    goIdle c ds = ({ ds with state := landing ds }, if dryingStates ds.state then [.dryingActive false] else []) := by
  have hsame := startConditions_withState hs (state := .idle) (by decide)
  cases h : startConditions ds with
  | true => rw [goIdle_waits (hsame.trans h) ho, landing, if_pos h]
  | false => rw [goIdle_rests (hsame.trans h), landing_rests h]

/-- A compressor that has gone off in Running with a cause of Table 7-4 other than a blocked tank (R124 to R126). -/
theorem stopRunning_lands {cause : CompressorFinish} (hs : ds.state = .running) (hc : cause ≠ .tankFull) :
    stopRunning c cause ds =
      ({ compressorOff ds with state := landing ds, finish := cause }, [.dryingActive false]) := by
  have hoff : { compressorOff ds with finish := cause }.state = .running := hs
  refine (if_neg hc).trans ?_
  rw [goIdle_lands (n := offTime) (by rw [hoff]; decide) rfl, hoff]
  rfl

theorem stopRunning_rests {cause : CompressorFinish} (hs : ds.state = .running) (hc : cause ≠ .tankFull)
    (h : startConditions ds = false) :
    stopRunning c cause ds = ({ compressorOff ds with state := .idle, finish := cause }, [.dryingActive false]) := by
  rw [stopRunning_lands hs hc, landing_rests h]

/-- The end of an attempt in Airflow-Wait where the start conditions fail (R121, R126). -/
theorem leaveAirflowWait_rests {cause : CompressorFinish} (hs : ds.state = .airflowWait) (h : startConditions ds = false) :
    leaveAirflowWait c cause ds =
      ({ ds with state := .idle, airflowWaitLeft := none, finish := cause }, [.dryingActive false]) := by
  have hidle : startConditions { ds with state := .idle, airflowWaitLeft := none, finish := cause } = false :=
    (startConditions_withState (by simp [hs]) (by decide)).trans h
  refine (goIdle_rests (ds := { ds with airflowWaitLeft := none, finish := cause }) hidle).trans ?_
  simp only [hs]
  rfl

theorem goTankHold_active (hs : dryingStates ds.state = true) :
    goTankHold ds = ({ ds with state := .tankHold }, [.dryingActive false]) :=
  congrArg ({ ds with state := .tankHold }, ·) (if_pos hs)

theorem goTankHold_idle (hs : dryingStates ds.state = false) : goTankHold ds = ({ ds with state := .tankHold }, []) :=
  congrArg ({ ds with state := .tankHold }, ·) (if_neg (by simp [hs]))

theorem stopRunning_tank (hs : ds.state = .running) :
    stopRunning c .tankFull ds =
      ({ compressorOff ds with state := .tankHold, finish := .tankFull }, [.dryingActive false]) := by
  have hactive : dryingStates { compressorOff ds with finish := .tankFull }.state = true := congrArg dryingStates hs
  exact goTankHold_active hactive

/-! ### Deliveries before the compressor runs (R119 to R121, R126) -/

section Before
variable {event : DsEvent}

theorem dsDeliver_idle (hs : ds.state = .idle) (h : ds.service = false) :
    dsDeliver c event ds = evaluateIdle c ds := by
  simp [dsDeliver, hs, h]

theorem dsDeliver_ready (hs : ds.state = .readyWait) (h : startConditions ds = true) :
    dsDeliver c event ds = (ds, []) := by
  simp [dsDeliver, hs, h]

theorem dsDeliver_readyFails (hs : ds.state = .readyWait) (h : startConditions ds = false) :
    dsDeliver c event ds = ({ ds with state := .idle }, []) := by
  have hleaves : dsDeliver c event ds = goIdle c ds := by simp [dsDeliver, hs, h]
  have hidle : startConditions { ds with state := .idle } = false :=
    (startConditions_withState (by simp [hs]) (by decide)).trans h
  rw [hleaves, goIdle_rests hidle, hs]
  rfl

theorem dsDeliver_airflow (hs : ds.state = .airflowWait) (h : startConditions ds = true) :
    dsDeliver c event ds = (if event = .applied ∧ c ≤ ds.applied then enterRunning ds else ds, []) := by
  simp only [dsDeliver, hs, h, if_true]
  split <;> rfl

theorem dsDeliver_airflowFails (hs : ds.state = .airflowWait) (h : startConditions ds = false) :
    dsDeliver c event ds =
      ({ ds with state := .idle, airflowWaitLeft := none, finish := failedCondition ds }, [.dryingActive false]) := by
  have hleaves : dsDeliver c event ds = leaveAirflowWait c (failedCondition ds) ds := by simp [dsDeliver, hs, h]
  rw [hleaves, leaveAirflowWait_rests hs h]

/-- The cause of Table 7-4 for the start condition that failed (log 39). -/
theorem failedCondition_eq :
    failedCondition ds =
      if ds.tankBlocked = true then .tankFull
      else if ds.coil = none ∨ ds.nodeLost = true then .sensorLost
      else if ds.mode = .off ∨ ds.mode = .standby then .mode
      else if ds.mode = .service then .service
      else if ds.faulted = true then .blowerFault
      else .satisfied := by
  simp only [failedCondition, restMode_iff, Option.isNone_iff_eq_none]

end Before

end Evaluate

/-- Settles O31: the evaluation by its conditions, the deliveries in the three states before the compressor runs, and the
input that each delivery brings. -/
theorem startEvaluation : Obligations.StartEvaluation := by
  unfold Obligations.StartEvaluation
  refine ⟨?evaluation, ?deliveries, ?inputs⟩
  case evaluation =>
    rintro c ds cold rfl
    rw [← coilCold_eq]
    refine ⟨?_, evaluateIdle_fails, fun n => evaluateIdle_waits,
      fun h ho ha => (evaluateIdle_enters h ho).trans (enterAirflowWait_waits ha),
      fun h ho ha => (evaluateIdle_enters h ho).trans (enterAirflowWait_runs ha)⟩
    rw [startConditions_iff, runMode_iff, Option.isSome_iff_exists]
  case deliveries =>
    rintro c event ds cold cause rfl rfl
    rw [← coilCold_eq, ← failedCondition_eq]
    refine ⟨dsDeliver_idle, dsDeliver_ready, dsDeliver_readyFails, fun hs h he ha => ?_, fun hs h hno => ?_,
      dsDeliver_airflowFails⟩
    · rw [dsDeliver_airflow hs h, if_pos ⟨he, ha⟩]
      rfl
    · rw [dsDeliver_airflow hs h, if_neg]
      rintro ⟨he, ha⟩
      exact hno.elim (· he) (Nat.not_lt.mpr ha)
  case inputs =>
    rintro s on duty deliver rfl
    refine ⟨?_, ?_, ?_, ?_⟩ <;> (rintro r rfl; rfl)

end Sys2Proof.Machine


/-! The drying sequencer: its stops, the defrost, the service compressor, and its timers. -/
namespace Sys2Proof.Machine

section Running
variable {c : Nat} {ds : Sequencer} {event : DsEvent}

/-! ### Running (R124 to R127) -/

theorem dsDeliver_running (hs : ds.state = .running) : dsDeliver c event ds = deliverRunning c event ds := by
  simp only [dsDeliver, hs]

/-- A delivery that makes a stop of Table 7-4 stops the compressor with its cause (R126). -/
theorem dsDeliver_stops {cause : CompressorFinish} (hs : ds.state = .running) (h : runningStop event ds = some cause) :
    dsDeliver c event ds = stopRunning c cause ds := by
  rw [dsDeliver_running hs]
  simp only [deliverRunning, h]

/-- A stop other than a blocked tank, where the start conditions fail, ends in Idle. -/
theorem dsDeliver_stopsInIdle {cause : CompressorFinish} (hs : ds.state = .running)
    (h : runningStop event ds = some cause) (hc : cause ≠ .tankFull) (hf : startConditions ds = false) :
    dsDeliver c event ds = ({ compressorOff ds with state := .idle, finish := cause }, [.dryingActive false]) :=
  (dsDeliver_stops hs h).trans (stopRunning_rests hs hc hf)

theorem runningStop_blocked (h : ds.tankBlocked = true) : runningStop .tank ds = some .tankFull := if_pos h

theorem dsDeliver_stopsForTank (hs : ds.state = .running) (h : ds.tankBlocked = true) :
    dsDeliver c .tank ds = ({ compressorOff ds with state := .tankHold, finish := .tankFull }, [.dryingActive false]) :=
  (dsDeliver_stops hs (runningStop_blocked h)).trans (stopRunning_tank hs)

theorem runningStop_coil (h : ds.coil = none) : runningStop .unitReading ds = some .sensorLost := if_pos (by simp [h])

theorem runningStop_rest (h : ds.mode = .off ∨ ds.mode = .standby) : runningStop .mode ds = some .mode :=
  if_pos (restMode_iff.mpr h)

theorem runningStop_service (h : ds.mode = .service) : runningStop .mode ds = some .service := by
  simp [runningStop, h, restMode]

theorem runningStop_active (h : ds.mode = .run ∨ ds.mode = .quiet) : runningStop .mode ds = none := by
  obtain h | h := h <;> simp [runningStop, h, restMode]

theorem runningStop_fault (h : ds.faulted = true) : runningStop .fault ds = some .blowerFault := if_pos h

theorem runningStop_sound (h : ds.faulted = false) : runningStop .fault ds = none := if_neg (by simp [h])

theorem runningStop_clear (h : ds.tankBlocked = false) : runningStop .tank ds = none := if_neg (by simp [h])

theorem runningStop_coilHeld {t : Int} (h : ds.coil = some t) : runningStop .unitReading ds = none := if_neg (by simp [h])

/-- A delivery of the tank, the mode, the blower's fault or another state of the unit node that makes no stop changes
nothing in Running. -/
theorem dsDeliver_runsOn (hs : ds.state = .running) (h : runningStop event ds = none)
    (he : event = .tank ∨ event = .mode ∨ event = .fault ∨ event = .unitOther) : dsDeliver c event ds = (ds, []) := by
  rw [dsDeliver_running hs]
  unfold deliverRunning
  rw [h]
  obtain rfl | rfl | rfl | rfl := he <;> rfl

/-- The drying call in Running (R124). -/
theorem dsDeliver_call (hs : ds.state = .running) :
    dsDeliver c .call ds =
      if ds.call = false ∧ ds.onLeft = none then stopRunning c .satisfied ds else (ds, []) := by
  rw [dsDeliver_running hs]
  rfl

theorem dsDeliver_callOff (hs : ds.state = .running) (hc : ds.call = false) (ho : ds.onLeft = none) :
    dsDeliver c .call ds = ({ compressorOff ds with state := .idle, finish := .satisfied }, [.dryingActive false]) := by
  rw [dsDeliver_call hs, if_pos ⟨hc, ho⟩, stopRunning_rests hs (by decide) (start_fails_call hc)]

theorem dsDeliver_callNoted (hs : ds.state = .running) (h : ds.call = true ∨ ds.onLeft ≠ none) :
    dsDeliver c .call ds = (ds, []) := by
  rw [dsDeliver_call hs, if_neg]
  rintro ⟨hc, ho⟩
  exact h.elim (by simp [hc]) (· ho)

/-- An applied duty below the coil minimum, with the output on: the airflow grace runs, afresh if it did not (R125). -/
theorem watchGrace_low (hc : ds.compressor = true) (ha : ds.applied < c) :
    watchGrace c ds = { ds with graceLeft := some (ds.graceLeft.getD 10000) } := by
  rw [watchGrace, if_pos hc, if_pos ha]
  split
  next n h =>
    rw [h]
    exact congrArg (fun left => { ds with graceLeft := left }) h
  next h => simp only [h, Option.getD_none, graceTime]

theorem watchGrace_enough (hc : ds.compressor = true) (ha : c ≤ ds.applied) :
    watchGrace c ds = { ds with graceLeft := none } := by
  simp [watchGrace, hc, Nat.not_lt.mpr ha]

theorem dsDeliver_applied (hs : ds.state = .running) : dsDeliver c .applied ds = (watchGrace c ds, []) := by
  rw [dsDeliver_running hs]
  rfl

/-- A cold coil in Running: the frost dwell runs, afresh if it did not (R127). -/
theorem watchFrost_cold {t : Int} (hc : ds.coil = some t) (ht : t ≤ 5) :
    watchFrost ds = { ds with frostLeft := some (ds.frostLeft.getD 60000) } := by
  have hcold : coilCold ds = true := by simp [coilCold_eq, hc, ht]
  rw [watchFrost, if_pos hcold]
  split
  next n h =>
    rw [h]
    exact congrArg (fun left => { ds with frostLeft := left }) h
  next h => simp only [h, Option.getD_none, frostTime]

theorem watchFrost_warm {t : Int} (hc : ds.coil = some t) (ht : 5 < t) :
    watchFrost ds = { ds with frostLeft := none } := by
  have hwarm : coilCold ds = false := by simp [coilCold_eq, hc, ht]
  simp [watchFrost, hwarm]

theorem dsDeliver_reading {t : Int} (hs : ds.state = .running) (hc : ds.coil = some t) :
    dsDeliver c .unitReading ds = (watchFrost ds, []) := by
  rw [dsDeliver_running hs]
  simp only [deliverRunning, runningStop_coilHeld hc]

/-! ### Defrost, Tank-Hold and Lockout (R128 to R132) -/

theorem dsDeliver_defrost (hs : ds.state = .defrost) : dsDeliver c event ds = deliverDefrost c event ds := by
  simp only [dsDeliver, hs]

/-- A defrost ended where the start conditions fail: Idle, with the timeout count and the cause kept (R130). -/
theorem defrostStopped (hs : ds.state = .defrost) (hf : startConditions ds = false) :
    goIdle c { ds with defrostLeft := none } = ({ ds with state := .idle, defrostLeft := none }, [.dryingActive false]) := by
  have hidle : startConditions { ds with state := .idle, defrostLeft := none } = false :=
    (startConditions_withState (by simp [hs]) (by decide)).trans hf
  refine (goIdle_rests (ds := { ds with defrostLeft := none }) hidle).trans ?_
  simp only [hs]
  rfl

theorem deliverDefrost_stops (hs : ds.state = .defrost) (hf : startConditions ds = false)
    (h : deliverDefrost c event ds = goIdle c { ds with defrostLeft := none }) :
    dsDeliver c event ds = ({ ds with state := .idle, defrostLeft := none }, [.dryingActive false]) :=
  (dsDeliver_defrost hs).trans (h.trans (defrostStopped hs hf))

theorem deliverDefrost_warm {t : Int} (h : ds.coil = some t) :
    deliverDefrost c .unitReading ds = if 50 ≤ t then endDefrost c { ds with timeouts := 0 } else (ds, []) := by
  simp only [deliverDefrost, h]

theorem deliverDefrost_noCoil (h : ds.coil = none) :
    deliverDefrost c .unitReading ds = goIdle c { ds with defrostLeft := none } := by
  simp only [deliverDefrost, h]

theorem endDefrost_blocked (hs : ds.state = .defrost) (h : ds.tankBlocked = true) :
    endDefrost c ds = ({ ds with state := .tankHold, defrostLeft := none }, [.dryingActive false]) :=
  (if_pos h).trans (goTankHold_active (ds := { ds with defrostLeft := none }) (congrArg dryingStates hs))

theorem endDefrost_clear (hs : ds.state = .defrost) (h : ds.tankBlocked = false) :
    endDefrost c ds = ((evaluateIdle c { ds with state := .idle, defrostLeft := none }).1,
      .dryingActive false :: (evaluateIdle c { ds with state := .idle, defrostLeft := none }).2) := by
  refine (if_neg (by simp [h])).trans ((goIdle_eq (ds := { ds with defrostLeft := none })).trans ?_)
  simp only [hs]
  rfl

theorem deliverDefrost_mode :
    deliverDefrost c .mode ds = if runMode ds.mode then (ds, []) else goIdle c { ds with defrostLeft := none } := rfl

theorem deliverDefrost_fault :
    deliverDefrost c .fault ds = if ds.faulted then goIdle c { ds with defrostLeft := none } else (ds, []) := rfl

theorem not_runMode (h : ds.mode = .off ∨ ds.mode = .standby ∨ ds.mode = .service) : ¬ runMode ds.mode = true := by
  obtain h | h | h := h <;> simp [h, runMode]

theorem dsDeliver_tankHold (hs : ds.state = .tankHold) :
    dsDeliver c event ds = if event = .tank ∧ ds.tankBlocked = false then goIdle c ds else (ds, []) := by
  simp only [dsDeliver, hs]

theorem dsDeliver_lockout (hs : ds.state = .lockout) : dsDeliver c event ds = (ds, []) := by simp only [dsDeliver, hs]

/-! ### The service compressor (R133) -/

theorem dsDeliver_service (hs : ds.state = .idle) (h : ds.service = true) :
    dsDeliver c event ds = deliverService c event ds := by
  simp only [dsDeliver, hs, h, if_true]

theorem deliverService_blocked (hs : ds.state = .idle) (h : ds.tankBlocked = true) :
    deliverService c .tank ds = ({ compressorOff ds with state := .tankHold, finish := .tankFull }, []) :=
  (if_pos h).trans (goTankHold_idle (ds := { compressorOff ds with finish := .tankFull }) (congrArg dryingStates hs))

theorem deliverService_fault (h : ds.faulted = true) :
    deliverService c .fault ds = evaluateIdle c { compressorOff ds with finish := .blowerFault } := if_pos h

theorem deliverService_mode (h : ds.mode ≠ .service) :
    deliverService c .mode ds = evaluateIdle c { compressorOff ds with finish := .service } := if_neg h

/-- The service compressor off, with the evaluation of Idle behind it: the off timer runs, so at most Ready-Wait. -/
theorem evaluateIdle_off_lands {cause : CompressorFinish} (hs : ds.state = .idle) :
    evaluateIdle c { compressorOff ds with finish := cause } =
      ({ compressorOff ds with state := landing ds, finish := cause }, []) := by
  cases h : startConditions ds with
  | true => rw [evaluateIdle_waits (n := offTime) (by exact h) rfl, landing, if_pos h]
  | false =>
    rw [evaluateIdle_fails (by exact h), landing_rests h]
    exact congrArg (fun state => ({ compressorOff ds with state := state, finish := cause }, [])) hs

end Running

/-- Settles O33: the stops in Running, the two watches, the ends of a defrost, Tank-Hold and Lockout, and the service
compressor. -/
theorem runningStops : Obligations.RunningStops := by
  unfold Obligations.RunningStops
  refine ⟨?running, ?watches, ?defrost, ?held, ?service⟩
  case running =>
    rintro c ds off hs rfl
    exact ⟨dsDeliver_stopsForTank hs,
      fun h => dsDeliver_stopsInIdle hs (runningStop_coil h) (by decide) (start_fails_coil h),
      fun h => ⟨dsDeliver_stopsInIdle hs rfl (by decide) (start_fails_coil h),
        dsDeliver_stopsInIdle hs rfl (by decide) (start_fails_coil h)⟩,
      fun h => dsDeliver_stopsInIdle hs (runningStop_rest h) (by decide) (start_fails_mode (h.imp_right .inl)),
      fun h => dsDeliver_stopsInIdle hs (runningStop_service h) (by decide) (start_fails_mode (.inr (.inr h))),
      fun h => dsDeliver_runsOn hs (runningStop_active h) (.inr (.inl rfl)),
      fun h => dsDeliver_stopsInIdle hs (runningStop_fault h) (by decide) (start_fails_fault h),
      dsDeliver_callOff hs, fun n hn => dsDeliver_callNoted hs (.inr (by simp [hn])),
      fun h => dsDeliver_callNoted hs (.inl h), fun h => dsDeliver_runsOn hs (runningStop_clear h) (.inl rfl),
      fun h => dsDeliver_runsOn hs (runningStop_sound h) (.inr (.inr (.inl rfl))),
      dsDeliver_runsOn hs rfl (.inr (.inr (.inr rfl)))⟩
  case watches =>
    intro c ds hs hc
    refine ⟨fun ha => ?_, fun ha => ?_, fun t ht hcold => ?_, fun t ht hwarm => ?_⟩
    · rw [dsDeliver_applied hs, watchGrace_low hc ha]
    · rw [dsDeliver_applied hs, watchGrace_enough hc ha]
    · rw [dsDeliver_reading hs ht, watchFrost_cold ht hcold]
    · rw [dsDeliver_reading hs ht, watchFrost_warm ht hwarm]
  case defrost =>
    rintro c ds ended thawed hs rfl rfl
    refine ⟨fun t ht h hb => ?_, fun t ht h hb => ?_, fun t ht h => ?_, fun h => ⟨?_, ?_⟩, fun h => ?_, fun h => ?_,
      fun h => ?_, fun h => ?_, fun h => ?_, ?_⟩
    · rw [dsDeliver_defrost hs, deliverDefrost_warm ht, if_pos h]
      exact endDefrost_blocked (ds := { ds with timeouts := 0 }) hs hb
    · rw [dsDeliver_defrost hs, deliverDefrost_warm ht, if_pos h]
      exact endDefrost_clear (ds := { ds with timeouts := 0 }) hs hb
    · rw [dsDeliver_defrost hs, deliverDefrost_warm ht, if_neg (by omega)]
    · exact deliverDefrost_stops hs (start_fails_coil h) (deliverDefrost_noCoil h)
    · exact deliverDefrost_stops hs (start_fails_coil h) rfl
    · exact deliverDefrost_stops hs (start_fails_lost h) rfl
    · exact deliverDefrost_stops hs (start_fails_mode h) (deliverDefrost_mode.trans (if_neg (not_runMode h)))
    · rw [dsDeliver_defrost hs, deliverDefrost_mode, if_pos (runMode_iff.mpr h)]
    · exact deliverDefrost_stops hs (start_fails_fault h) (deliverDefrost_fault.trans (if_pos h))
    · rw [dsDeliver_defrost hs, deliverDefrost_fault, if_neg (by simp [h])]
    · rintro event (rfl | rfl | rfl | rfl) <;> exact dsDeliver_defrost hs
  case held =>
    intro c event ds
    refine ⟨fun hs he hb => ?_, fun hs h => ?_, dsDeliver_lockout⟩
    · rw [dsDeliver_tankHold hs, if_pos ⟨he, hb⟩, goIdle_eq, hs]
      rfl
    · rw [dsDeliver_tankHold hs, if_neg]
      rintro ⟨he, hb⟩
      exact h.elim (· he) (by simp [hb])
  case service =>
    rintro c ds off hs hservice hc rfl
    have delivers {event : DsEvent} : dsDeliver c event ds = deliverService c event ds := dsDeliver_service hs hservice
    refine ⟨fun h => ?_, fun h => ?_, fun h => ?_, fun h => ?_, fun h => ?_, fun h => ?_, fun h => ?_, fun h => ?_, ?_⟩
    · exact delivers.trans (deliverService_blocked hs h)
    · exact delivers.trans (if_neg (by simp [h]))
    · refine (delivers.trans (deliverService_fault h)).trans ((evaluateIdle_off_lands hs).trans ?_)
      rw [landing_rests (start_fails_fault h)]
      exact congrArg (fun state => ({ compressorOff ds with state := state, finish := .blowerFault }, [])) hs.symm
    · exact delivers.trans (if_neg (by simp [h]))
    · exact (delivers.trans (deliverService_mode h)).trans (evaluateIdle_off_lands hs)
    · exact delivers.trans (if_pos h)
    · exact delivers.trans (congrArg (·, []) (watchGrace_low hc h))
    · exact delivers.trans (congrArg (·, []) (watchGrace_enough hc h))
    · rintro event (rfl | rfl | rfl | rfl | rfl) <;> exact delivers

/-! ### The timers (R117 to R129) -/

section Timers
variable {c : Nat} {ds : Sequencer} {n : Nat}

theorem afterSequencer_eq {r r' : Sequencer × List Signal} {s : State} (h : r = r') :
    (Host.Outcome.next (afterSequencer r s) : Host.Outcome State Fault Refusal) =
      .next (settle r'.2 { s with ds := r'.1 }) := by
  rw [h]
  rfl

theorem offExpiry_ready (ho : ds.offLeft = some n) (hs : ds.state = .readyWait) :
    offExpiry c ds = enterAirflowWait c { ds with offLeft := none } := by
  simp only [offExpiry, ho, hs]

theorem offExpiry_idle (ho : ds.offLeft = some n) (hs : ds.state = .idle) (h : ds.service = false) :
    offExpiry c ds = evaluateIdle c { ds with offLeft := none } := by
  simp [offExpiry, ho, hs, h]

theorem offExpiry_only (ho : ds.offLeft = some n) (hr : ds.state ≠ .readyWait) (hi : ds.state ≠ .idle ∨ ds.service = true) :
    offExpiry c ds = ({ ds with offLeft := none }, []) := by
  simp only [offExpiry, ho]
  split
  next h => exact absurd h hr
  next h => exact if_pos (hi.resolve_left (absurd h))
  next => rfl

theorem offExpiry_none (h : ds.offLeft = none) : offExpiry c ds = (ds, []) := by simp only [offExpiry, h]

theorem onExpiry_some (h : ds.onLeft = some n) :
    onExpiry c ds =
      if ds.state = .running ∧ ds.call = false then stopRunning c .satisfied { ds with onLeft := none }
      else ({ ds with onLeft := none }, []) := by
  simp only [onExpiry, h]

theorem onExpiry_none (h : ds.onLeft = none) : onExpiry c ds = (ds, []) := by simp only [onExpiry, h]

theorem waitExpiry_waiting (h : ds.airflowWaitLeft = some n) (hs : ds.state = .airflowWait) :
    waitExpiry c ds = leaveAirflowWait c .airflowLow { ds with offLeft := some 180000 } := by
  simp only [waitExpiry, h]
  exact if_pos hs

theorem waitExpiry_none (h : ds.airflowWaitLeft = none) : waitExpiry c ds = (ds, []) := by simp only [waitExpiry, h]

theorem graceExpiry_some (h : ds.graceLeft = some n) :
    graceExpiry c ds =
      if ds.state = .running then stopRunning c .airflowLow ds
      else if ds.compressor then ({ compressorOff ds with finish := .airflowLow }, [])
      else ({ ds with graceLeft := none }, []) := by
  simp only [graceExpiry, h]

theorem graceExpiry_none (h : ds.graceLeft = none) : graceExpiry c ds = (ds, []) := by simp only [graceExpiry, h]

theorem frostExpiry_running (h : ds.frostLeft = some n) (hs : ds.state = .running) :
    frostExpiry ds = ({ compressorOff ds with state := .defrost, finish := .frost, defrostLeft := some 600000 },
      [.notice .defrostStart none]) := by
  simp only [frostExpiry, h]
  exact if_pos hs

theorem frostExpiry_none (h : ds.frostLeft = none) : frostExpiry ds = (ds, []) := by simp only [frostExpiry, h]

theorem defrostExpiry_defrost (h : ds.defrostLeft = some n) (hs : ds.state = .defrost) :
    defrostExpiry c ds =
      if 3 ≤ ds.timeouts + 1 then
        ({ ds with state := .lockout, timeouts := ds.timeouts + 1, defrostLeft := none },
          [.notice .compressorLockout none, .dryingActive false])
      else endDefrost c { ds with timeouts := ds.timeouts + 1 } := by
  simp only [defrostExpiry, h]
  exact if_pos hs

theorem defrostExpiry_none (h : ds.defrostLeft = none) : defrostExpiry c ds = (ds, []) := by
  simp only [defrostExpiry, h]

/-- The end of an attempt in Airflow-Wait with the off timer afresh (R121, log 16). -/
theorem leaveAirflowWait_lands (hs : ds.state = .airflowWait) :
    leaveAirflowWait c .airflowLow { ds with offLeft := some 180000 } =
      ({ ds with state := landing ds, airflowWaitLeft := none, finish := .airflowLow, offLeft := some 180000 },
        [.dryingActive false]) := by
  refine (goIdle_lands (n := 180000)
    (ds := { ds with offLeft := some 180000, airflowWaitLeft := none, finish := .airflowLow }) (by simp [hs]) rfl).trans ?_
  exact Prod.ext rfl (if_pos (congrArg dryingStates hs))

end Timers

/-- Settles O32: each timer by the state that it finds. -/
theorem dryingTimers : Obligations.DryingTimers := by
  unfold Obligations.DryingTimers
  refine ⟨?offOn, ?waits, ?defrost⟩
  case offOn =>
    rintro s ended r rfl rfl
    refine ⟨fun n ho hs h => ?_, fun n ho hs h => ?_, fun n ho hr hi => afterSequencer_eq (offExpiry_only ho hr hi),
      fun h => afterSequencer_eq (offExpiry_none h), fun n ho hs hc => ?_, fun n ho h => ?_,
      fun h => afterSequencer_eq (onExpiry_none h)⟩
    · have hidle : startConditions { s.ds with state := .idle, offLeft := none } = true :=
        (startConditions_withState (by simp [hs]) (by decide)).trans h
      refine afterSequencer_eq ((offExpiry_ready ho hs).trans ?_)
      rw [evaluateIdle_enters hidle rfl]
      rfl
    · refine afterSequencer_eq ((offExpiry_idle ho hs h).trans ?_)
      rw [withState_self (ds := { s.ds with offLeft := none }) hs]
    · exact afterSequencer_eq ((onExpiry_some ho).trans ((if_pos ⟨hs, hc⟩).trans
        (stopRunning_rests (ds := { s.ds with onLeft := none }) hs (by decide) (start_fails_call hc))))
    · refine afterSequencer_eq ((onExpiry_some ho).trans (if_neg ?_))
      rintro ⟨hs, hc⟩
      exact h.elim (· hs) (by simp [hc])
  case waits =>
    rintro s off state rfl rfl
    refine ⟨fun n h hs => afterSequencer_eq ((waitExpiry_waiting h hs).trans (leaveAirflowWait_lands hs)),
      fun h => afterSequencer_eq (waitExpiry_none h), fun n h hs => ?_, fun n h hs hservice hc => ?_,
      fun h => afterSequencer_eq (graceExpiry_none h), fun n h hs => afterSequencer_eq (frostExpiry_running h hs),
      fun h => afterSequencer_eq (frostExpiry_none h)⟩
    · exact afterSequencer_eq ((graceExpiry_some h).trans ((if_pos hs).trans (stopRunning_lands hs (by decide))))
    · exact afterSequencer_eq ((graceExpiry_some h).trans ((if_neg (by simp [hs])).trans (if_pos hc)))
  case defrost =>
    rintro s counted r rfl rfl
    refine ⟨fun n h hs h3 => ?_, fun n h hs h3 hb => ?_, fun n h hs h3 hb => ?_,
      fun h => afterSequencer_eq (defrostExpiry_none h)⟩
    · exact afterSequencer_eq ((defrostExpiry_defrost h hs).trans (if_pos h3))
    · exact afterSequencer_eq ((defrostExpiry_defrost h hs).trans ((if_neg (by omega)).trans
        (endDefrost_blocked (ds := { s.ds with timeouts := s.ds.timeouts + 1 }) hs hb)))
    · exact afterSequencer_eq ((defrostExpiry_defrost h hs).trans ((if_neg (by omega)).trans
        (endDefrost_clear (ds := { s.ds with timeouts := s.ds.timeouts + 1 }) hs hb)))

end Sys2Proof.Machine


/-! The tank: its switches and level, the blocked report, the pump at a level change, and the tank's timers. -/
namespace Sys2Proof.Machine

section Tank
variable {tm : Tank} {fitted : Bool} {mode : UnitMode}

/-! ### The switches and the level (R136, R137) -/

theorem switchInput_changes {sw : TankSwitch} {closed : Bool} (h : (switchOf sw tm).raw ≠ closed) :
    switchInput sw closed tm =
      setSwitch sw { switchOf sw tm with raw := closed, stabilityLeft := some 2000 } tm := if_neg h

theorem switchInput_same {sw : TankSwitch} {closed : Bool} (h : (switchOf sw tm).raw = closed) :
    switchInput sw closed tm = tm := if_pos h

theorem stabilityExpiry_some {sw : TankSwitch} {n : Nat} (h : (switchOf sw tm).stabilityLeft = some n) :
    stabilityExpiry fitted mode sw tm =
      if (switchOf sw tm).debounced = some (switchOf sw tm).raw then
        (setSwitch sw { switchOf sw tm with stabilityLeft := none } tm, [])
      else settleLevel fitted mode
        (setSwitch sw { switchOf sw tm with debounced := some (switchOf sw tm).raw, stabilityLeft := none } tm) := by
  simp only [stabilityExpiry, h]

theorem stabilityExpiry_none {sw : TankSwitch} (h : (switchOf sw tm).stabilityLeft = none) :
    stabilityExpiry fitted mode sw tm = (tm, []) := by
  simp only [stabilityExpiry, h]

/-- An unsettled switch leaves the level unsettled (Table 8-1). -/
theorem derivedLevel_unsettled (h : tm.present.debounced = none ∨ tm.low.debounced = none ∨ tm.high.debounced = none
      ∨ tm.full.debounced = none) : derivedLevel tm = .unsettled := by
  unfold derivedLevel
  obtain h | h | h | h := h
  · rw [h]; rfl
  · rw [h]; cases tm.present.debounced <;> rfl
  · rw [h]; cases tm.present.debounced <;> cases tm.low.debounced <;> rfl
  · rw [h]; cases tm.present.debounced <;> cases tm.low.debounced <;> cases tm.high.debounced <;> rfl

theorem derivedLevel_settled {p l h f : Bool} (hp : tm.present.debounced = some p) (hl : tm.low.debounced = some l)
    (hh : tm.high.debounced = some h) (hf : tm.full.debounced = some f) :
    derivedLevel tm = levelOf (some p) (some l) (some h) (some f) := by
  rw [derivedLevel, hp, hl, hh, hf]

/-! ### The blocked report (R138) -/

theorem blockingLevel_iff {level : TankLevel} :
    blockingLevel level = true ↔ level = .full ∨ level = .fault ∨ level = .absent := by cases level <;> decide

theorem safeLevel_iff {level : TankLevel} : safeLevel level = true ↔ level = .empty ∨ level = .normal := by
  cases level <;> decide

variable {old : TankLevel}

theorem blockReport_blocks (h : blockingLevel tm.level = true) :
    blockReport old tm =
      ({ tm with blocked := true, origin := .level, rearmLeft := none }, if tm.blocked then [] else [.tankReport true]) :=
  if_pos h

theorem blockReport_clear (h : blockingLevel tm.level = false) (hb : tm.blocked = false) :
    blockReport old tm = (tm, []) :=
  (if_neg (by simp [h])).trans (if_neg (by simp [hb]))

/-- While the tank is blocked, a level that blocks no more changes the re-arm timer alone. -/
theorem blockReport_rearms (h : blockingLevel tm.level = false) (hb : tm.blocked = true) :
    blockReport old tm = ({ tm with
      rearmLeft := if safeLevel tm.level then (if safeLevel old then tm.rearmLeft else some 30000) else none }, []) := by
  refine (if_neg (by simp [h])).trans ((if_pos hb).trans ?_)
  split
  · split <;> rfl
  · rfl

theorem blockReport_deliveries :
    (blockReport old tm).2 = if blockingLevel tm.level = true ∧ tm.blocked = false then [.tankReport true] else [] := by
  cases h : blockingLevel tm.level <;> cases hb : tm.blocked
  · simp [blockReport_clear h hb]
  · simp [blockReport_rearms h hb]
  · simp [blockReport_blocks h, hb]
  · simp [blockReport_blocks h, hb]

theorem blockReport_blocked : (blockReport old tm).1.blocked = (tm.blocked || blockingLevel tm.level) := by
  cases h : blockingLevel tm.level <;> cases hb : tm.blocked
  · simp [blockReport_clear h hb, hb]
  · simp [blockReport_rearms h hb, hb]
  · simp [blockReport_blocks h]
  · simp [blockReport_blocks h]

theorem blockReport_origin :
    (blockReport old tm).1.origin = if blockingLevel tm.level then .level else tm.origin := by
  cases h : blockingLevel tm.level <;> cases hb : tm.blocked
  · simp [blockReport_clear h hb]
  · simp [blockReport_rearms h hb]
  · simp [blockReport_blocks h]
  · simp [blockReport_blocks h]

/-- What two tank records share when only the pump may differ. -/
structure SameReport (a b : Tank) : Prop where
  level : b.level = a.level
  blocked : b.blocked = a.blocked
  origin : b.origin = a.origin
  rearm : b.rearmLeft = a.rearmLeft
  present : b.present = a.present
  low : b.low = a.low
  high : b.high = a.high
  full : b.full = a.full

theorem SameReport.refl (tm : Tank) : SameReport tm tm := ⟨rfl, rfl, rfl, rfl, rfl, rfl, rfl, rfl⟩

theorem checkPump_sameReport : SameReport tm (checkPump fitted mode tm) := by
  unfold checkPump
  split
  · exact ⟨rfl, rfl, rfl, rfl, rfl, rfl, rfl, rfl⟩
  · exact .refl tm

theorem pumpLevelChange_sameReport : SameReport tm (pumpLevelChange fitted mode old tm) := by
  have hreset : SameReport tm (checkPump fitted mode { tm with pump := .off, timeouts := 0 }) := by
    obtain ⟨h1, h2, h3, h4, h5, h6, h7, h8⟩ :=
      checkPump_sameReport (tm := { tm with pump := .off, timeouts := 0 }) (fitted := fitted) (mode := mode)
    exact ⟨h1, h2, h3, h4, h5, h6, h7, h8⟩
  unfold pumpLevelChange
  split
  · repeat' split
    all_goals exact ⟨rfl, rfl, rfl, rfl, rfl, rfl, rfl, rfl⟩
  · repeat' split
    all_goals exact ⟨rfl, rfl, rfl, rfl, rfl, rfl, rfl, rfl⟩
  · split
    · exact hreset
    · exact .refl tm
  · exact checkPump_sameReport

theorem blockReport_switches : (blockReport old tm).1.level = tm.level ∧ (blockReport old tm).1.present = tm.present
    ∧ (blockReport old tm).1.low = tm.low ∧ (blockReport old tm).1.high = tm.high
    ∧ (blockReport old tm).1.full = tm.full := by
  unfold blockReport
  repeat' split
  all_goals exact ⟨rfl, rfl, rfl, rfl, rfl⟩

/-! ### The level derived again (R137, R138) -/

theorem settleLevel_same (h : derivedLevel tm = tm.level) : settleLevel fitted mode tm = (tm, []) := if_pos h

theorem settleLevel_moves (h : derivedLevel tm ≠ tm.level) :
    settleLevel fitted mode tm =
      (pumpLevelChange fitted mode tm.level (blockReport tm.level { tm with level := derivedLevel tm }).1,
        levelNotice (derivedLevel tm) ++ (blockReport tm.level { tm with level := derivedLevel tm }).2) := if_neg h

theorem levelNotice_eq (level : TankLevel) :
    levelNotice level =
      if level = .full then [.notice .tankFull none] else if level = .fault then [.notice .tankFault none] else [] := by
  cases level <;> rfl

theorem afterTank_eq {r r' : Tank × List Signal} {s : State} (h : r = r') :
    (Host.Outcome.next (afterTank r s) : Host.Outcome State Fault Refusal) = .next (settle r'.2 { s with tm := r'.1 }) := by
  rw [h]
  rfl

end Tank

/-- Settles O35: the debounce, the level of the four switches, and the blocked report at a level change. -/
theorem tankReport : Obligations.TankReport := by
  unfold Obligations.TankReport
  refine ⟨?debounce, fun tm p l h f => ⟨derivedLevel_unsettled, fun hp hl hh hf => ?level⟩, ?report⟩
  case debounce =>
    rintro sw closed s x r rfl rfl
    refine ⟨fun h => ?_, fun h => ?_, fun n hn hd => ?_, fun n hn hd => ?_, fun h => ?_⟩
    · exact congrArg (fun tm => Host.Outcome.next { s with tm := tm }) (switchInput_changes h)
    · exact congrArg (fun tm => Host.Outcome.next { s with tm := tm }) (switchInput_same h)
    · exact afterTank_eq ((stabilityExpiry_some hn).trans (if_pos hd))
    · exact afterTank_eq ((stabilityExpiry_some hn).trans (if_neg hd))
    · exact afterTank_eq (stabilityExpiry_none h)
  case level =>
    rw [derivedLevel_settled hp hl hh hf]
    clear hp hl hh hf
    refine ⟨?_, ?_, ?_, ?_, ?_, ?_⟩
    · rintro rfl; rfl
    · rintro rfl rfl rfl rfl; rfl
    · rintro rfl rfl rfl rfl; rfl
    · rintro rfl rfl rfl rfl; rfl
    · rintro rfl rfl rfl rfl; rfl
    · rintro rfl (⟨rfl, rfl⟩ | ⟨rfl, rfl⟩)
      · cases f <;> rfl
      · cases l <;> rfl
  case report =>
    rintro fitted mode tm after deliveries new blocks _ rfl hsettle hblocks
    have hblocks : blocks ↔ blockingLevel (derivedLevel tm) = true := hblocks.trans blockingLevel_iff.symm
    constructor
    · intro h
      rw [settleLevel_same h] at hsettle
      obtain ⟨rfl, rfl⟩ := Prod.mk.inj hsettle
      exact ⟨rfl, rfl⟩
    · intro h
      rw [settleLevel_moves h] at hsettle
      obtain ⟨rfl, rfl⟩ := Prod.mk.inj hsettle
      have hclear (hno : ¬ blocks) : blockingLevel (derivedLevel tm) = false := Bool.eq_false_iff.mpr (mt hblocks.mpr hno)
      obtain ⟨hlevel, hblocked, horigin, hrearm, hpresent, hlow, hhigh, hfull⟩ := pumpLevelChange_sameReport
        (tm := (blockReport tm.level { tm with level := derivedLevel tm }).1) (fitted := fitted) (mode := mode)
        (old := tm.level)
      obtain ⟨slevel, spresent, slow, shigh, sfull⟩ :=
        blockReport_switches (tm := { tm with level := derivedLevel tm }) (old := tm.level)
      refine ⟨hlevel.trans slevel, ?_, ?_, ?_, fun hb => ?_, fun hno hb => ?_, fun hb hnew => ?_, fun hb hnew => ?_,
        hpresent.trans spresent, hlow.trans slow, hhigh.trans shigh, hfull.trans sfull⟩
      · simp only [levelNotice_eq, blockReport_deliveries, hblocks]
      · rw [hblocked, blockReport_blocked, Bool.or_eq_true, hblocks]
      · rw [horigin, blockReport_origin]
        simp only [hblocks]
      · rw [hrearm, blockReport_blocks (by exact hblocks.mp hb)]
      · rw [hrearm, blockReport_clear (by exact hclear hno) (by exact hb)]
      · rw [hrearm, blockReport_rearms (by exact hnew ▸ rfl) (by exact hb)]
        exact hnew ▸ rfl
      · have hsafe : safeLevel (derivedLevel tm) = true := safeLevel_iff.mpr hnew
        have hopen : blockingLevel (derivedLevel tm) = false := by obtain hnew | hnew := hnew <;> rw [hnew] <;> rfl
        rw [hrearm, blockReport_rearms (by exact hopen) (by exact hb)]
        simp only [hsafe, if_true, safeLevel_iff]

section Pump
variable {tm : Tank} {fitted : Bool} {mode : UnitMode} {old : TankLevel}

/-! ### The pump at a level change (R141 to R146) -/

/-- The pump in Off starts where the start condition holds, and else stays (R141). -/
theorem checkPump_off (hp : tm.pump = .off) :
    checkPump fitted mode tm =
      if fitted = true ∧ mode ≠ .service ∧ (tm.level = .high ∨ tm.level = .full) then startRun false tm else tm := by
  simp only [checkPump, hp, true_and, pumpLevel_iff]

theorem pumpLevelChange_absent (hp : tm.pump = .running) (hl : tm.level = .absent) :
    pumpLevelChange fitted mode old tm = endRun .tankRemoved tm := by
  simp only [pumpLevelChange, hp, hl]

theorem pumpLevelChange_switchFault (hp : tm.pump = .running) (hl : tm.level = .fault) :
    pumpLevelChange fitted mode old tm = endRun .switchFault tm := by
  simp only [pumpLevelChange, hp, hl]

theorem pumpLevelChange_empty (hp : tm.pump = .running) (hl : tm.level = .empty) :
    pumpLevelChange fitted mode old tm = if tm.serviceRun then tm else { endRun .emptied tm with timeouts := 0 } := by
  simp only [pumpLevelChange, hp, hl]

theorem pumpLevelChange_runsOn (hp : tm.pump = .running) (hl : tm.level = .normal ∨ tm.level = .high ∨ tm.level = .full) :
    pumpLevelChange fitted mode old tm = tm := by
  obtain hl | hl | hl := hl <;> simp only [pumpLevelChange, hp, hl]

theorem pumpLevelChange_rest (hp : tm.pump = .rest) :
    pumpLevelChange fitted mode old tm =
      if tm.level = .absent ∨ tm.level = .fault ∨ tm.level = .empty then { tm with pump := .off, restLeft := none } else tm := by
  simp only [pumpLevelChange, hp]
  split
  next hl => rw [if_pos (.inl hl)]
  next hl => rw [if_pos (.inr (.inl hl))]
  next hl => rw [if_pos (.inr (.inr hl))]
  next ha hf he => rw [if_neg (not_or.mpr ⟨ha, not_or.mpr ⟨hf, he⟩⟩)]

theorem pumpLevelChange_fault (hp : tm.pump = .fault) :
    pumpLevelChange fitted mode old tm =
      if old = .absent then checkPump fitted mode { tm with pump := .off, timeouts := 0 } else tm := by
  simp only [pumpLevelChange, hp]

theorem pumpLevelChange_off (hp : tm.pump = .off) :
    pumpLevelChange fitted mode old tm = checkPump fitted mode tm := by
  simp only [pumpLevelChange, hp]

/-! ### The timers of the tank and the pump (R139, R142 to R144) -/

variable {n : Nat}

theorem rearmExpiry_some (h : tm.rearmLeft = some n) :
    rearmExpiry tm = ({ tm with blocked := false, rearmLeft := none },
      .tankReport false :: if tm.origin = .level then [.notice .tankCleared none] else []) := by
  simp only [rearmExpiry, h]
  rfl

theorem rearmExpiry_none (h : tm.rearmLeft = none) : rearmExpiry tm = (tm, []) := by simp only [rearmExpiry, h]

theorem maxRunExpiry_service (h : tm.maxRunLeft = some n) (hs : tm.serviceRun = true) :
    maxRunExpiry tm = (endRun .timeout tm, []) := by
  simp only [maxRunExpiry, h]
  exact if_pos hs

theorem maxRunExpiry_rests (h : tm.maxRunLeft = some n) (hs : tm.serviceRun = false) (h3 : tm.timeouts + 1 < 3) :
    maxRunExpiry tm =
      ({ endRun .timeout tm with timeouts := tm.timeouts + 1, pump := .rest, restLeft := some 10000 }, []) := by
  simp only [maxRunExpiry, h]
  exact (if_neg (by simp [hs])).trans (if_neg (Nat.not_le.mpr h3))

theorem maxRunExpiry_fault (h : tm.maxRunLeft = some n) (hs : tm.serviceRun = false) (h3 : 3 ≤ tm.timeouts + 1) :
    maxRunExpiry tm =
      ({ endRun .timeout tm with timeouts := tm.timeouts + 1, pump := .fault }, [.notice .pumpFault none]) := by
  simp only [maxRunExpiry, h]
  exact (if_neg (by simp [hs])).trans (if_pos h3)

theorem maxRunExpiry_none (h : tm.maxRunLeft = none) : maxRunExpiry tm = (tm, []) := by simp only [maxRunExpiry, h]

theorem restExpiry_some (h : tm.restLeft = some n) :
    restExpiry fitted mode tm = checkPump fitted mode { tm with pump := .off, restLeft := none } := by
  simp only [restExpiry, h]

theorem restExpiry_none (h : tm.restLeft = none) : restExpiry fitted mode tm = tm := by simp only [restExpiry, h]

end Pump

/-- Settles O36: the pump's state in turn, and the level that it meets. -/
theorem pumpAtLevelChange : Obligations.PumpAtLevelChange := by
  unfold Obligations.PumpAtLevelChange
  rintro fitted mode old tm off starts _ rfl hstarts
  refine ⟨fun hp => ⟨pumpLevelChange_absent hp, pumpLevelChange_switchFault hp, fun hl hs => ?_, fun hl hs => ?_,
    pumpLevelChange_runsOn hp⟩, pumpLevelChange_rest, fun hp ho => ?_, fun hp ho => ?_, fun hp => ?_⟩
  · exact (pumpLevelChange_empty hp hl).trans (if_neg (by simp [hs]))
  · exact (pumpLevelChange_empty hp hl).trans (if_pos hs)
  · exact (pumpLevelChange_fault hp).trans (if_neg ho)
  · rw [pumpLevelChange_fault hp, if_pos ho, checkPump_off rfl]
    simp only [hstarts]
    rfl
  · rw [pumpLevelChange_off hp, checkPump_off hp]
    simp only [hstarts]
    rfl

/-- Settles O37: the three timers in turn. -/
theorem tankTimers : Obligations.TankTimers := by
  unfold Obligations.TankTimers
  rintro s timeout rfl
  have rest {tm : Tank} (h : restExpiry s.mc.settings.pumpFitted s.mc.mode s.tm = tm) :
      exec .restExpiry s = .next { s with tm := tm } := by
    rw [← h]
    rfl
  exact ⟨fun n h => afterTank_eq (rearmExpiry_some h), fun h => afterTank_eq (rearmExpiry_none h),
    fun n h hs => afterTank_eq (maxRunExpiry_service h hs), fun n h hs h3 => afterTank_eq (maxRunExpiry_rests h hs h3),
    fun n h hs h3 => afterTank_eq (maxRunExpiry_fault h hs h3), fun h => afterTank_eq (maxRunExpiry_none h),
    fun n h hf hm hl => rest ((restExpiry_some h).trans (checkPump_starts rfl hf hm hl)),
    fun n h hrests => rest ((restExpiry_some h).trans (checkPump_rests hrests)),
    fun h => rest (restExpiry_none h)⟩

end Sys2Proof.Machine


/-! The Dose Unit's computation and what a unit reading does to the filter stages. -/
namespace Sys2Proof.Machine

/-! ### The dose computation (R89 to R102) -/

section Dose
variable {curve : List Nat} {s : Nat}

/-- At the last point of the curve the free airflow is that point's (R91). -/
theorem freeAirflow_last (h : s = 4000) : freeAirflow curve s = curve.getD 16 0 := by
  subst h
  rfl

/-- Between two points of the curve the free airflow is their interpolation, where that is a number of airflow (R91). -/
theorem freeAirflow_between {q : Nat} (hs : s < 4000)
    (h : (q : Int) = (curve.getD (s / 250) 0 : Int)
      + (((curve.getD (s / 250 + 1) 0 : Int) - (curve.getD (s / 250) 0 : Int)) * ((s % 250 : Nat) : Int)).tdiv 250) :
    freeAirflow curve s = q := by
  have hpoint : ¬ 16 ≤ s / 250 := by omega
  simp only [freeAirflow, if_neg hpoint, ← h, Int.toNat_natCast]

theorem doseSpeed_le (mode : UnitMode) (speed : Nat) : doseSpeed mode speed ≤ 4000 := by
  unfold doseSpeed
  split <;> omega

theorem restMode_eq_decide (mode : UnitMode) : restMode mode = decide (mode = .off ∨ mode = .standby) := by
  cases mode <;> rfl

/-- The free airflow that the computation takes: 0 in Off and Standby, else that of the curve (R90, R91). -/
theorem freeAirflow_of {mode : UnitMode} {q : Nat} (hs : s ≤ 4000)
    (h : (q : Int) = (if restMode mode then 0 else if s = 4000 then (curve.getD 16 0 : Int)
      else (curve.getD (s / 250) 0 : Int)
        + (((curve.getD (s / 250 + 1) 0 : Int) - (curve.getD (s / 250) 0 : Int)) * ((s % 250 : Nat) : Int)).tdiv 250)) :
    (if restMode mode then 0 else freeAirflow curve s) = q := by
  split at h
  next hrest => rw [if_pos hrest]; omega
  next hrest =>
    rw [if_neg hrest]
    split at h
    next hlast => rw [freeAirflow_last hlast]; omega
    next hlast => exact freeAirflow_between (by omega) h

end Dose

/-- Settles O39: each quantity is the Dose Unit's, and the two stages' records are written from them. -/
theorem doseComputation : Obligations.DoseComputation := by
  unfold Obligations.DoseComputation
  intro mode speed fs stamp fields du rest S Qf r Q raw dt Cf Cc C2 t1 t2 dose1 dose2 held pre fine hpre hfine hrest hS hQf hr
    hQ hraw hdt hCf hCc hC2 ht1 ht2 hdose1 hdose2 hheld
  rw [← restMode_eq_decide] at hrest
  subst hpre hfine hrest
  have hspeed : S = doseSpeed mode speed := hS
  subst hspeed
  have hfree := freeAirflow_of (doseSpeed_le mode speed) hQf
  have hrestriction : r = if restMode mode then 0 else restriction (fs.classes.get fs.fine.number) fields.pressure := by
    rw [hr]
    cases fields.pressure <;> rfl
  have hinterval : raw = rawInterval du.previousStamp stamp := by
    rw [hraw]
    cases du.previousStamp <;> rfl
  have hcoarse : Cc = coarseFraction fields.pm25 fields.pm10 := by
    rw [hCc]
    cases fields.pm25 <;> cases fields.pm10 <;> rfl
  have hpressure : held = heldPressure (fs.classes.get fs.fine.number) (doseSpeed mode speed) fields.pressure fs.fine := by
    rw [hheld]
    cases fields.pressure <;> rfl
  subst hQ hdt hCf hC2 ht1 ht2 hdose1 hdose2 hinterval hcoarse hpressure
  unfold doseReading
  simp only [hfree, ← hrestriction]
  by_cases hm : fs.fine.state = .missing
  · simp only [if_pos hm]
    rfl
  · simp only [if_neg hm]
    rfl

end Sys2Proof.Machine


/-! A unit reading at the filter stages (R106 to R112): the detection of Missing, the derived state, the checkpoint. -/
namespace Sys2Proof.Machine

/-! ### Step 1: the missing-filter detection (R108, R109) -/

section Detect
variable {cls : FilterClass} {s : Nat} {dp : Option Nat} {r : StageRecord}

theorem suggestsAbsent_iff :
    suggestsAbsent cls s dp = true ↔ ∃ x : Nat, dp = some x ∧ cls.reference ≤ s ∧ x < cls.absent := by
  cases dp <;> simp [suggestsAbsent]

theorem suggestsPresent_iff :
    suggestsPresent cls s dp = true ↔ ∃ x : Nat, dp = some x ∧ cls.reference ≤ s ∧ cls.absent + 10 ≤ x := by
  cases dp <;> simp [suggestsPresent]

section Held
variable (hs : r.state ≠ .missing)
include hs

theorem detectMissing_sets (h : suggestsAbsent cls s dp = true) (h3 : 3 ≤ r.absentCount + 1) :
    detectMissing cls s dp r = ({ r with absentCount := 0, presentCount := 0, unsaved := true, state := .missing },
      [.notice .filterMissing (some 2#8), .filterMissing true]) := by
  rw [detectMissing, if_neg hs, if_pos h, if_pos h3]

theorem detectMissing_countsAbsent (h : suggestsAbsent cls s dp = true) (h3 : r.absentCount + 1 < 3) :
    detectMissing cls s dp r = ({ r with absentCount := r.absentCount + 1 }, []) := by
  rw [detectMissing, if_neg hs, if_pos h, if_neg (Nat.not_le.mpr h3)]

theorem detectMissing_notAbsent (h : ¬ suggestsAbsent cls s dp = true) :
    detectMissing cls s dp r = ({ r with absentCount := 0 }, []) := by
  rw [detectMissing, if_neg hs, if_neg h]

end Held

section Missing
variable (hs : r.state = .missing)
include hs

theorem detectMissing_clears (h : suggestsPresent cls s dp = true) (h3 : 3 ≤ r.presentCount + 1) :
    detectMissing cls s dp r =
      ({ r with absentCount := 0, presentCount := 0, unsaved := true, state := .fresh }, []) := by
  rw [detectMissing, if_pos hs, if_pos h, if_pos h3]

theorem detectMissing_countsPresent (h : suggestsPresent cls s dp = true) (h3 : r.presentCount + 1 < 3) :
    detectMissing cls s dp r = ({ r with presentCount := r.presentCount + 1 }, []) := by
  rw [detectMissing, if_pos hs, if_pos h, if_neg (Nat.not_le.mpr h3)]

theorem detectMissing_notPresent (h : ¬ suggestsPresent cls s dp = true) :
    detectMissing cls s dp r = ({ r with presentCount := 0 }, []) := by
  rw [detectMissing, if_pos hs, if_neg h]

end Missing

/-- What step 1 may do to a stage record: its counts change, its state stays, becomes Missing, or leaves Missing for
Fresh, and only a change of the state sets the unsaved flag. -/
structure Detected (before r : StageRecord) : Prop where
  number : r.number = before.number
  dose : r.dose = before.dose
  remainder : r.remainder = before.remainder
  held : r.held = before.held
  life : r.life = before.life
  restored : r.restored = before.restored
  checkpointLife : r.checkpointLife = before.checkpointLife
  stamp : r.stamp = before.stamp
  state : (r.state = before.state ∧ r.unsaved = before.unsaved)
    ∨ (r.state = .missing ∧ before.state ≠ .missing ∧ r.unsaved = true)
    ∨ (r.state = .fresh ∧ before.state = .missing ∧ r.unsaved = true)

theorem Detected.refl (r : StageRecord) : Detected r r :=
  ⟨rfl, rfl, rfl, rfl, rfl, rfl, rfl, rfl, .inl ⟨rfl, rfl⟩⟩

theorem detectMissing_detected : Detected r (detectMissing cls s dp r).1 := by
  by_cases hs : r.state = .missing
  · by_cases hp : suggestsPresent cls s dp = true
    · by_cases h3 : 3 ≤ r.presentCount + 1
      · rw [detectMissing_clears hs hp h3]
        exact ⟨rfl, rfl, rfl, rfl, rfl, rfl, rfl, rfl, .inr (.inr ⟨rfl, hs, rfl⟩)⟩
      · rw [detectMissing_countsPresent hs hp (Nat.not_le.mp h3)]
        exact ⟨rfl, rfl, rfl, rfl, rfl, rfl, rfl, rfl, .inl ⟨rfl, rfl⟩⟩
    · rw [detectMissing_notPresent hs hp]
      exact ⟨rfl, rfl, rfl, rfl, rfl, rfl, rfl, rfl, .inl ⟨rfl, rfl⟩⟩
  · by_cases ha : suggestsAbsent cls s dp = true
    · by_cases h3 : 3 ≤ r.absentCount + 1
      · rw [detectMissing_sets hs ha h3]
        exact ⟨rfl, rfl, rfl, rfl, rfl, rfl, rfl, rfl, .inr (.inl ⟨rfl, hs, rfl⟩)⟩
      · rw [detectMissing_countsAbsent hs ha (Nat.not_le.mp h3)]
        exact ⟨rfl, rfl, rfl, rfl, rfl, rfl, rfl, rfl, .inl ⟨rfl, rfl⟩⟩
    · rw [detectMissing_notAbsent hs ha]
      exact ⟨rfl, rfl, rfl, rfl, rfl, rfl, rfl, rfl, .inl ⟨rfl, rfl⟩⟩

end Detect

/-! ### Step 2: the derived state (R107) -/

section Derive
variable {fine : Bool} {cls : FilterClass} {r before : StageRecord}

/-- The notice of a move into a state: Due and Worn have one (R107). -/
def moveNotice (fine : Bool) : StageState → List Signal
  | .due => [.notice .filterDue (stageSubject fine)]
  | .worn => [.notice .filterWorn (stageSubject fine)]
  | _ => []

theorem deriveState_stays (h : r.state = .missing) : deriveState fine cls r = (r, [], false) := if_pos h

/-- The state follows the life; a move into Due or Worn posts its notice and counts as a move. -/
theorem deriveState_derives (h : r.state ≠ .missing) :
    deriveState fine cls r =
      ({ r with state := stageStateOf r.life cls.due },
        if stageStateOf r.life cls.due = r.state then [] else moveNotice fine (stageStateOf r.life cls.due),
        decide (stageStateOf r.life cls.due ≠ r.state
          ∧ (stageStateOf r.life cls.due = .due ∨ stageStateOf r.life cls.due = .worn))) := by
  rw [deriveState, if_neg h]
  generalize stageStateOf r.life cls.due = new
  by_cases hnew : new = r.state
  · subst hnew
    simp
  · simp only [if_neg hnew]
    cases new <;> simp [moveNotice, hnew]

theorem deriveState_record :
    (deriveState fine cls r).1 =
      { r with state := if r.state = .missing then .missing else stageStateOf r.life cls.due } := by
  by_cases h : r.state = .missing
  · rw [deriveState_stays h, if_pos h, ← h]
  · rw [deriveState_derives h, if_neg h]

/-- What step 1 may do to the state `b` of a stage: it stays, becomes Missing, or leaves Missing for Fresh. -/
def MissingStep (b new : StageState) : Prop :=
  new = b ∨ (new = .missing ∧ b ≠ .missing) ∨ (new = .fresh ∧ b = .missing)

theorem Detected.missingStep (h : Detected before r) : MissingStep before.state r.state := by
  obtain ⟨h, -⟩ | ⟨h, hb, -⟩ | ⟨h, hb, -⟩ := h.state
  · exact .inl h
  · exact .inr (.inl ⟨h, hb⟩)
  · exact .inr (.inr ⟨h, hb⟩)

/-- Step 1 sets no state that step 2 has a notice for. -/
theorem MissingStep.ne_iff {b new state : StageState} (h : MissingStep b new) (hs : state = .due ∨ state = .worn)
    (hm : new ≠ .missing) : new ≠ state ↔ b ≠ state := by
  obtain rfl | ⟨rfl, -⟩ | ⟨rfl, rfl⟩ := h
  · exact Iff.rfl
  · exact absurd rfl hm
  · obtain rfl | rfl := hs <;> decide

theorem mem_moveNotice {kind : NoticeKind} {state new : StageState}
    (hk : (kind = .filterDue ∧ state = .due) ∨ (kind = .filterWorn ∧ state = .worn)) :
    .notice kind (stageSubject fine) ∈ moveNotice fine new ↔ new = state := by
  obtain ⟨rfl, rfl⟩ | ⟨rfl, rfl⟩ := hk <;> cases new <;> simp [moveNotice]

/-- The notices of Due and Worn tell the moves of step 2 from the state `b` before the reading. -/
theorem mem_deriveState_notice {b : StageState} (hd : MissingStep b r.state) {kind : NoticeKind} {state : StageState}
    (hk : (kind = .filterDue ∧ state = .due) ∨ (kind = .filterWorn ∧ state = .worn)) :
    .notice kind (stageSubject fine) ∈ (deriveState fine cls r).2.1
      ↔ (deriveState fine cls r).1.state = state ∧ b ≠ state := by
  have hstate : state = .due ∨ state = .worn := hk.imp And.right And.right
  by_cases hm : r.state = .missing
  · rw [deriveState_stays hm]
    refine iff_of_false List.not_mem_nil ?_
    rintro ⟨h, -⟩
    rw [← h, hm] at hstate
    exact hstate.elim nofun nofun
  · rw [deriveState_derives hm, ← hd.ne_iff hstate hm]
    dsimp only
    split
    next hsame => simp [hsame]
    next hmoved =>
      rw [mem_moveNotice hk]
      exact ⟨fun h => ⟨h, fun hr => hmoved (h.trans hr.symm)⟩, And.left⟩

/-- Step 2 counts a move exactly when the state has become Due or Worn since before the reading. -/
theorem deriveState_moved {b : StageState} (hd : MissingStep b r.state) :
    (deriveState fine cls r).2.2 = true
      ↔ ((deriveState fine cls r).1.state = .due ∨ (deriveState fine cls r).1.state = .worn)
        ∧ (deriveState fine cls r).1.state ≠ b := by
  by_cases hm : r.state = .missing
  · rw [deriveState_stays hm]
    simp [hm]
  · rw [deriveState_derives hm]
    dsimp only
    rw [decide_eq_true_eq, and_comm]
    refine and_congr_right fun hstate => ?_
    rw [ne_comm, hd.ne_iff hstate hm, ne_comm]

end Derive

/-! ### Step 3: the unsaved flag and the checkpoint (R106, R112) -/

section Close
variable {fine moved : Bool} {before r : StageRecord}

/-- The fields that R106 watches have changed. -/
def changedSince (before r : StageRecord) : Bool :=
  decide (r.dose ≠ before.dose ∨ r.held ≠ before.held ∨ r.life ≠ before.life ∨ r.state ≠ before.state)

theorem markUnsaved_eq : markUnsaved before r = { r with unsaved := r.unsaved || changedSince before r } := by
  unfold markUnsaved
  split
  next h =>
    obtain ⟨hd, hh, hl, hs⟩ := h
    have hno : changedSince before r = false := by simp [changedSince, hd, hh, hl, hs]
    rw [hno, Bool.or_false]
  next h =>
    have hyes : changedSince before r = true := by
      refine decide_eq_true ?_
      by_contra hc
      push Not at hc
      obtain ⟨hd, hh, hl, hs⟩ := hc
      exact h ⟨hd.symm, hh.symm, hl.symm, hs.symm⟩
    rw [hyes, Bool.or_true]

/-- The end of the handling of one stage: the flag, then the checkpoint decision. -/
def closeStage (fine moved : Bool) (before r : StageRecord) : StageRecord × List Signal :=
  decideCheckpoint fine moved (markUnsaved before r)

/-- A checkpoint is queued: it holds the record as it then stands, saved. -/
theorem closeStage_queues (h : moved = true ∨ r.checkpointLife + 10 ≤ r.life) :
    closeStage fine moved before r =
      ({ r with checkpointLife := r.life, unsaved := false },
        [.checkpoint (stageItem fine { r with checkpointLife := r.life, unsaved := false })]) := by
  rw [closeStage, markUnsaved_eq]
  refine (if_pos h).trans ?_
  cases fine <;> rfl

theorem closeStage_holds (h : ¬ (moved = true ∨ r.checkpointLife + 10 ≤ r.life)) :
    closeStage fine moved before r = ({ r with unsaved := r.unsaved || changedSince before r }, []) := by
  rw [closeStage, markUnsaved_eq]
  exact if_neg h

/-- Only the checkpoint life and the unsaved flag may change at the end of the handling. -/
theorem closeStage_record : ∃ saved unsaved,
    (closeStage fine moved before r).1 = { r with checkpointLife := saved, unsaved := unsaved } := by
  by_cases h : moved = true ∨ r.checkpointLife + 10 ≤ r.life
  · exact ⟨_, _, congrArg Prod.fst (closeStage_queues h)⟩
  · exact ⟨_, _, congrArg Prod.fst (closeStage_holds h)⟩

end Close

/-! ### One stage, from the dose computation to its checkpoint -/

section Stage
variable {fine : Bool} {cls : FilterClass} {before computed r : StageRecord}

/-- What the dose computation keeps of a stage record. -/
structure StageKept (before computed : StageRecord) : Prop where
  number : computed.number = before.number
  state : computed.state = before.state
  restored : computed.restored = before.restored
  checkpointLife : computed.checkpointLife = before.checkpointLife
  stamp : computed.stamp = before.stamp
  unsaved : computed.unsaved = before.unsaved
  absentCount : computed.absentCount = before.absentCount
  presentCount : computed.presentCount = before.presentCount

/-- Steps 2 and 3 on the record `r` that step 1 leaves; `before` is the record before the reading. -/
def handledStage (fine : Bool) (cls : FilterClass) (before r : StageRecord) : StageRecord × List Signal :=
  closeStage fine (deriveState fine cls r).2.2 before (deriveState fine cls r).1

/-- The two triggers of a checkpoint (R112): a move into Due or Worn, and ten permille of life since the last. -/
def CheckpointTrigger (before after : StageRecord) : Prop :=
  ((after.state = .due ∨ after.state = .worn) ∧ after.state ≠ before.state) ∨ before.checkpointLife + 10 ≤ after.life

/-- The handling keeps every field but the state, the checkpoint life and the unsaved flag. -/
theorem handledStage_record : ∃ saved unsaved,
    (handledStage fine cls before r).1 =
      { (deriveState fine cls r).1 with checkpointLife := saved, unsaved := unsaved } :=
  closeStage_record

theorem handledStage_state :
    (handledStage fine cls before r).1.state = if r.state = .missing then .missing else stageStateOf r.life cls.due := by
  obtain ⟨saved, unsaved, h⟩ := handledStage_record (fine := fine) (cls := cls) (before := before) (r := r)
  rw [h, deriveState_record]

theorem handledStage_derivedState :
    (handledStage fine cls before r).1.state = (deriveState fine cls r).1.state := by
  rw [handledStage_state, deriveState_record]

/-- The fields of the account and the counts are those that step 1 leaves. -/
theorem handledStage_account :
    (handledStage fine cls before r).1.number = r.number ∧ (handledStage fine cls before r).1.restored = r.restored
      ∧ (handledStage fine cls before r).1.stamp = r.stamp ∧ (handledStage fine cls before r).1.life = r.life
      ∧ (handledStage fine cls before r).1.dose = r.dose ∧ (handledStage fine cls before r).1.remainder = r.remainder
      ∧ (handledStage fine cls before r).1.held = r.held
      ∧ (handledStage fine cls before r).1.absentCount = r.absentCount
      ∧ (handledStage fine cls before r).1.presentCount = r.presentCount := by
  obtain ⟨saved, unsaved, h⟩ := handledStage_record (fine := fine) (cls := cls) (before := before) (r := r)
  rw [h, deriveState_record]
  exact ⟨rfl, rfl, rfl, rfl, rfl, rfl, rfl, rfl, rfl⟩

variable (hk : StageKept before computed) (hd : Detected computed r)
include hk hd

theorem missingStep_of : MissingStep before.state r.state := hk.state ▸ hd.missingStep

/-- The checkpoint decision of step 3 is the trigger, read off the record after the handling. -/
theorem checkpointTrigger_iff :
    CheckpointTrigger before (handledStage fine cls before r).1
      ↔ (deriveState fine cls r).2.2 = true
        ∨ (deriveState fine cls r).1.checkpointLife + 10 ≤ (deriveState fine cls r).1.life := by
  have hsaved : (deriveState fine cls r).1.checkpointLife = before.checkpointLife := by
    rw [deriveState_record]
    exact hd.checkpointLife.trans hk.checkpointLife
  have hlife : (handledStage fine cls before r).1.life = (deriveState fine cls r).1.life := by
    rw [handledStage_account.2.2.2.1, deriveState_record]
  rw [CheckpointTrigger, handledStage_derivedState, deriveState_moved (missingStep_of hk hd), hsaved, hlife]

theorem handledStage_queues (h : CheckpointTrigger before (handledStage fine cls before r).1) :
    (handledStage fine cls before r).2 = [.checkpoint (stageItem fine (handledStage fine cls before r).1)]
      ∧ (handledStage fine cls before r).1.checkpointLife = (handledStage fine cls before r).1.life
      ∧ (handledStage fine cls before r).1.unsaved = false := by
  rw [handledStage, closeStage_queues ((checkpointTrigger_iff hk hd).mp h)]
  exact ⟨rfl, rfl, rfl⟩

/-- A state that step 1 has changed is another one than before the reading also after step 2. -/
theorem unsaved_or_moved :
    r.unsaved = before.unsaved
      ∨ (r.unsaved = true ∧ (deriveState fine cls r).1.state ≠ before.state) := by
  have hderived : stageStateOf r.life cls.due ≠ .missing := by
    unfold stageStateOf
    repeat' split
    all_goals decide
  rw [deriveState_record, ← hk.unsaved, ← hk.state]
  obtain ⟨-, hu⟩ | ⟨hs, hb, hu⟩ | ⟨hs, hb, hu⟩ := hd.state
  · exact .inl hu
  · exact .inr ⟨hu, by simp only [if_pos hs]; exact hb.symm⟩
  · refine .inr ⟨hu, ?_⟩
    simp only [hs, hb]
    exact hderived

theorem handledStage_holds (h : ¬ CheckpointTrigger before (handledStage fine cls before r).1) :
    (handledStage fine cls before r).2 = []
      ∧ (handledStage fine cls before r).1.checkpointLife = before.checkpointLife
      ∧ ((handledStage fine cls before r).1.unsaved = true ↔ before.unsaved = true
        ∨ (handledStage fine cls before r).1.dose ≠ before.dose ∨ (handledStage fine cls before r).1.held ≠ before.held
        ∨ (handledStage fine cls before r).1.life ≠ before.life
        ∨ (handledStage fine cls before r).1.state ≠ before.state) := by
  have hmoved := unsaved_or_moved (fine := fine) (cls := cls) hk hd
  have hunsaved : (deriveState fine cls r).1.unsaved = r.unsaved := by rw [deriveState_record]
  have hsaved : (deriveState fine cls r).1.checkpointLife = before.checkpointLife := by
    rw [deriveState_record]
    exact hd.checkpointLife.trans hk.checkpointLife
  rw [handledStage, closeStage_holds (mt (checkpointTrigger_iff hk hd).mpr h)]
  refine ⟨rfl, hsaved, ?_⟩
  simp only [Bool.or_eq_true, changedSince, decide_eq_true_eq, hunsaved]
  obtain hsame | ⟨htrue, hstate⟩ := hmoved
  · rw [hsame]
  · simp [htrue, hstate]

end Stage

end Sys2Proof.Machine


/-! The handling of a unit reading by both stages (R106), and the order of what it delivers. -/
namespace Sys2Proof.Machine

section Reading
variable (mode : UnitMode) (speed : Nat) (stamp : Word) (fields : Reading) (du : Dose) (fs : Filters)

theorem doseReading_pre : StageKept fs.pre (doseReading mode speed fs stamp fields du).pre := ⟨rfl, rfl, rfl, rfl, rfl, rfl, rfl, rfl⟩

theorem doseReading_preHeld : (doseReading mode speed fs stamp fields du).pre.held = fs.pre.held := rfl

theorem doseReading_fine : StageKept fs.fine (doseReading mode speed fs stamp fields du).fine := by
  by_cases h : fs.fine.state = .missing
  · simp only [doseReading, if_pos h]
    exact ⟨rfl, rfl, rfl, rfl, rfl, rfl, rfl, rfl⟩
  · simp only [doseReading, if_neg h]
    exact ⟨rfl, rfl, rfl, rfl, rfl, rfl, rfl, rfl⟩

/-- The record of stage 2 and the deliveries that step 1 leaves (R108, R109). -/
def fineDetected : StageRecord × List Signal :=
  detectMissing (fs.classes.get fs.fine.number) (doseReading mode speed fs stamp fields du).speed fields.pressure
    (doseReading mode speed fs stamp fields du).fine

/-- The handling of a unit reading, in the names of its three steps. -/
theorem stageReading_eq {res : DoseResult} {d : StageRecord × List Signal} {pre fine : FilterClass}
    (hres : res = doseReading mode speed fs stamp fields du) (hd : d = fineDetected mode speed stamp fields du fs)
    (hpre : pre = fs.classes.get fs.pre.number) (hfine : fine = fs.classes.get fs.fine.number) :
    stageReading mode speed stamp fields du fs =
      (res.dose, { fs with pre := (handledStage false pre fs.pre res.pre).1, fine := (handledStage true fine fs.fine d.1).1 },
        d.2 ++ (deriveState false pre res.pre).2.1 ++ (deriveState true fine d.1).2.1
          ++ clearingDelivery fs.fine (deriveState true fine d.1).1 ++ (handledStage false pre fs.pre res.pre).2
          ++ (handledStage true fine fs.fine d.1).2) := by
  subst hres hd hpre hfine
  rfl

end Reading

/-! ### The items among the deliveries -/

/-- The item that a delivery queues for a target, if it does. -/
def itemFor (t : StoreTarget) : Signal → Option StoreItem
  | .checkpoint item => if item.target = t then some item else none
  | _ => none

/-- The items that deliveries queue for a target. -/
def itemsFor (t : StoreTarget) (deliveries : List Signal) : List StoreItem := deliveries.filterMap (itemFor t)

section Items
variable {t : StoreTarget} {deliveries : List Signal}

theorem itemsFor_append (a b : List Signal) : itemsFor t (a ++ b) = itemsFor t a ++ itemsFor t b := List.filterMap_append

theorem itemsFor_notices (h : ∀ x ∈ deliveries, ∃ kind subject, x = Signal.notice kind subject) : itemsFor t deliveries = [] := by
  refine List.filterMap_eq_nil_iff.mpr fun x hx => ?_
  obtain ⟨kind, subject, rfl⟩ := h x hx
  rfl

theorem itemsFor_clearing (before after : StageRecord) : itemsFor t (clearingDelivery before after) = [] := by
  unfold clearingDelivery
  split <;> rfl

theorem itemsFor_detected (cls : FilterClass) (s : Nat) (dp : Option Nat) (r : StageRecord) :
    itemsFor t (detectMissing cls s dp r).2 = [] := by
  rw [detectMissing_deliveries]
  split <;> rfl

/-- The target of a stage's checkpoints (Table 10-2). -/
def stageTarget (fine : Bool) : StoreTarget := if fine then .f2 else .f1

theorem stageItem_target (fine : Bool) (r : StageRecord) : (stageItem fine r).target = stageTarget fine := by
  cases fine <;> rfl

theorem itemsFor_stageItem (fine : Bool) (r : StageRecord) :
    itemsFor t [.checkpoint (stageItem fine r)] = if stageTarget fine = t then [stageItem fine r] else [] := by
  simp only [itemsFor, List.filterMap_cons, itemFor, stageItem_target, List.filterMap_nil]
  split
  next h => split at h <;> simp_all
  next h => split at h <;> simp_all

end Items

section Handled
variable {fine : Bool} {cls : FilterClass} {before r : StageRecord}

theorem handledStage_checkpoints : ∀ x ∈ (handledStage fine cls before r).2, ∃ item, x = Signal.checkpoint item :=
  decideCheckpoint_checkpoints _ _ _

/-- A stage queues items for its own target alone. -/
theorem itemsFor_handled_other {t : StoreTarget} (h : t ≠ stageTarget fine) :
    itemsFor t (handledStage fine cls before r).2 = [] := by
  by_cases hq : (deriveState fine cls r).2.2 = true
      ∨ (deriveState fine cls r).1.checkpointLife + 10 ≤ (deriveState fine cls r).1.life
  · rw [handledStage, closeStage_queues hq, itemsFor_stageItem, if_neg (Ne.symm h)]
  · rw [handledStage, closeStage_holds hq]
    rfl

theorem itemsFor_stageItem_own : itemsFor (stageTarget fine) [.checkpoint (stageItem fine r)] = [stageItem fine r] := by
  rw [itemsFor_stageItem, if_pos rfl]

/-- The notices of step 2 name their own stage. -/
theorem deriveState_subject {kind : NoticeKind} {subject : Option Byte}
    (h : .notice kind subject ∈ (deriveState fine cls r).2.1) : subject = stageSubject fine := by
  by_cases hm : r.state = .missing
  · rw [deriveState_stays hm] at h
    cases h
  · rw [deriveState_derives hm] at h
    dsimp only at h
    split at h
    · cases h
    · cases hnew : stageStateOf r.life cls.due <;> simp_all [moveNotice]

end Handled

/-- A list of the deliveries of a unit reading: what steps 1 and 2 deliver, the clearing, and the checkpoints. -/
structure ReadingDeliveries (detected pre fine clearing preItems fineItems : List Signal) : Prop where
  detected : ∀ x ∈ detected, x = .notice .filterMissing (some 2#8) ∨ x = .filterMissing true
  pre : ∀ x ∈ pre, ∃ kind, x = .notice kind (some 1#8)
  fine : ∀ x ∈ fine, ∃ kind, x = .notice kind (some 2#8)
  clearing : ∀ x ∈ clearing, x = .filterMissing false
  preItems : ∀ x ∈ preItems, ∃ item, x = .checkpoint item
  fineItems : ∀ x ∈ fineItems, ∃ item, x = .checkpoint item

section Deliveries
variable {detected pre fine clearing preItems fineItems : List Signal}
  (h : ReadingDeliveries detected pre fine clearing preItems fineItems)
include h

/-- A notice of stage 2 other than that of Missing is one of its moves. -/
theorem ReadingDeliveries.mem_fine {kind : NoticeKind} (hk : kind ≠ .filterMissing) :
    .notice kind (some 2#8) ∈ detected ++ pre ++ fine ++ clearing ++ preItems ++ fineItems
      ↔ .notice kind (some 2#8) ∈ fine := by
  simp only [List.mem_append]
  refine ⟨?_, fun hx => .inl (.inl (.inl (.inr hx)))⟩
  rintro (((((hx | hx) | hx) | hx) | hx) | hx)
  · obtain hx | hx := h.detected _ hx <;> simp_all
  · obtain ⟨k, hx⟩ := h.pre _ hx
    simp at hx
  · exact hx
  · cases h.clearing _ hx
  · obtain ⟨item, hx⟩ := h.preItems _ hx
    cases hx
  · obtain ⟨item, hx⟩ := h.fineItems _ hx
    cases hx

/-- A notice of stage 1 is one of its moves. -/
theorem ReadingDeliveries.mem_pre {kind : NoticeKind} :
    .notice kind (some 1#8) ∈ detected ++ pre ++ fine ++ clearing ++ preItems ++ fineItems
      ↔ .notice kind (some 1#8) ∈ pre := by
  simp only [List.mem_append]
  refine ⟨?_, fun hx => .inl (.inl (.inl (.inl (.inr hx))))⟩
  rintro (((((hx | hx) | hx) | hx) | hx) | hx)
  · obtain hx | hx := h.detected _ hx <;> simp at hx
  · exact hx
  · obtain ⟨k, hx⟩ := h.fine _ hx
    simp at hx
  · cases h.clearing _ hx
  · obtain ⟨item, hx⟩ := h.preItems _ hx
    cases hx
  · obtain ⟨item, hx⟩ := h.fineItems _ hx
    cases hx

/-- What stands behind step 1 and the clearing tells nothing of Missing. -/
theorem ReadingDeliveries.no_filterMissing (missing : Bool) :
    .filterMissing missing ∉ pre ++ fine ++ preItems ++ fineItems := by
  simp only [List.mem_append]
  rintro (((hx | hx) | hx) | hx)
  · obtain ⟨k, hx⟩ := h.pre _ hx
    cases hx
  · obtain ⟨k, hx⟩ := h.fine _ hx
    cases hx
  · obtain ⟨item, hx⟩ := h.preItems _ hx
    cases hx
  · obtain ⟨item, hx⟩ := h.fineItems _ hx
    cases hx

theorem ReadingDeliveries.moves : ∀ x ∈ pre ++ fine, ∃ kind subject, x = Signal.notice kind subject := by
  intro x hx
  obtain hx | hx := List.mem_append.mp hx
  · obtain ⟨k, hx⟩ := h.pre _ hx
    exact ⟨k, _, hx⟩
  · obtain ⟨k, hx⟩ := h.fine _ hx
    exact ⟨k, _, hx⟩

theorem ReadingDeliveries.checkpoints : ∀ x ∈ preItems ++ fineItems, ∃ item, x = Signal.checkpoint item := by
  intro x hx
  obtain hx | hx := List.mem_append.mp hx
  · exact h.preItems _ hx
  · exact h.fineItems _ hx

/-- The items queued are those of the two checkpoint decisions. -/
theorem ReadingDeliveries.itemsFor_eq (t : StoreTarget) :
    itemsFor t (detected ++ pre ++ fine ++ clearing ++ preItems ++ fineItems)
      = itemsFor t preItems ++ itemsFor t fineItems := by
  have hdetected : itemsFor t detected = [] := List.filterMap_eq_nil_iff.mpr fun x hx => by
    obtain rfl | rfl := h.detected x hx <;> rfl
  have hclearing : itemsFor t clearing = [] := List.filterMap_eq_nil_iff.mpr fun x hx => by
    obtain rfl := h.clearing x hx
    rfl
  rw [itemsFor_append, itemsFor_append, itemsFor_append, List.append_assoc detected, itemsFor_append, hdetected,
    itemsFor_notices h.moves, hclearing]
  rfl

end Deliveries

/-- The deliveries of the handling are of these kinds. -/
theorem readingDeliveries {cls fineCls preCls : FilterClass} {s : Nat} {dp : Option Nat} {before computed pre preBefore r : StageRecord} :
    ReadingDeliveries (detectMissing cls s dp computed).2 (deriveState false preCls pre).2.1 (deriveState true fineCls r).2.1
      (clearingDelivery before (deriveState true fineCls r).1) (handledStage false preCls preBefore pre).2
      (handledStage true fineCls before r).2 where
  detected x hx := by
    rw [detectMissing_deliveries] at hx
    split at hx
    · simpa using hx
    · cases hx
  pre x hx := by
    obtain ⟨kind, subject, rfl⟩ := deriveState_notices _ _ _ x hx
    rw [deriveState_subject hx]
    exact ⟨kind, rfl⟩
  fine x hx := by
    obtain ⟨kind, subject, rfl⟩ := deriveState_notices _ _ _ x hx
    rw [deriveState_subject hx]
    exact ⟨kind, rfl⟩
  clearing x hx := ((mem_clearingDelivery _ _ _).mp hx).1
  preItems := handledStage_checkpoints
  fineItems := handledStage_checkpoints

/-- Settles O40: step 1 case by case, the derived states and their notices, the checkpoints of each stage, and the order of
the deliveries. -/
theorem filterStates : Obligations.FilterStates := by
  unfold Obligations.FilterStates
  rintro mode speed stamp fields du du' fs fs' deliveries res fineClass preClass absent present derived queued trigger
    hfine hpre hres habsent hpresent hderived hreading hqueued htrigger
  obtain ⟨d, hd⟩ : ∃ d, d = fineDetected mode speed stamp fields du fs := ⟨_, rfl⟩
  have hdetect : d = detectMissing fineClass res.speed fields.pressure res.fine := by rw [hd, hres, hfine]; rfl
  have hstep : derived = stageStateOf := hderived
  have htriggers : trigger = CheckpointTrigger := htrigger
  have habsent : absent ↔ suggestsAbsent fineClass res.speed fields.pressure = true :=
    habsent.trans suggestsAbsent_iff.symm
  have hpresent : present ↔ suggestsPresent fineClass res.speed fields.pressure = true :=
    hpresent.trans suggestsPresent_iff.symm
  have keptPre : StageKept fs.pre res.pre := hres ▸ doseReading_pre mode speed stamp fields du fs
  have keptFine : StageKept fs.fine res.fine := hres ▸ doseReading_fine mode speed stamp fields du fs
  have heldPre : res.pre.held = fs.pre.held := hres ▸ doseReading_preHeld mode speed stamp fields du fs
  have hdetected : Detected res.fine d.1 := hdetect ▸ detectMissing_detected
  rw [stageReading_eq mode speed stamp fields du fs hres hd hpre hfine] at hreading
  simp only [Prod.mk.injEq] at hreading
  obtain ⟨rfl, rfl, rfl⟩ := hreading
  have kinds : ReadingDeliveries d.2 (deriveState false preClass res.pre).2.1 (deriveState true fineClass d.1).2.1
      (clearingDelivery fs.fine (deriveState true fineClass d.1).1) (handledStage false preClass fs.pre res.pre).2
      (handledStage true fineClass fs.fine d.1).2 := by
    rw [hdetect]
    exact readingDeliveries
  obtain ⟨pnumber, prestored, pstamp, plife, pdose, premainder, pheld, -, -⟩ :=
    handledStage_account (fine := false) (cls := preClass) (before := fs.pre) (r := res.pre)
  obtain ⟨fnumber, frestored, fstamp, flife, fdose, fremainder, fheld, fabsent, fpresent⟩ :=
    handledStage_account (fine := true) (cls := fineClass) (before := fs.fine) (r := d.1)
  have fstate (hm : d.1.state ≠ .missing) :
      (handledStage true fineClass fs.fine d.1).1.state = derived res.fine.life fineClass.due := by
    rw [handledStage_state, if_neg hm, hdetected.life, hstep]
  have fmissing (hm : d.1.state = .missing) : (handledStage true fineClass fs.fine d.1).1.state = .missing := by
    rw [handledStage_state, if_pos hm]
  have hitems (t : StoreTarget) : queued t = itemsFor t (handledStage false preClass fs.pre res.pre).2
      ++ itemsFor t (handledStage true fineClass fs.fine d.1).2 := by
    rw [hqueued]
    exact kinds.itemsFor_eq t
  refine ⟨fun hs ha h3 => ?sets, fun hs ha h3 => ?countsAbsent, fun hs ha => ?notAbsent, fun hs hp h3 => ?clears,
    fun hsame => ?order, fun hs hp h3 => ?countsPresent, fun hs hp => ?notPresent, fun hs => ?preState,
    fun kind state hkind => ?notices, fun ht => ?queuesFine, fun ht => ?queuesPre, fun ht => ?holdsFine,
    fun ht => ?holdsPre, fun t h1 h2 => ?others, ?account, flife.trans hdetected.life, fdose.trans hdetected.dose,
    fremainder.trans hdetected.remainder, fheld.trans hdetected.held, plife, pdose, premainder, pheld.trans heldPre,
    rfl, rfl, rfl⟩
  case sets =>
    have hd : d = _ := hdetect.trans (detectMissing_sets (keptFine.state ▸ hs) (habsent.mp ha) (keptFine.absentCount ▸ h3))
    have hdeliveries : d.2 = [.notice .filterMissing (some 2#8), .filterMissing true] := by rw [hd]
    have hclearing : clearingDelivery fs.fine (deriveState true fineClass d.1).1 = [] := if_neg fun h => hs h.1
    refine ⟨fmissing (by rw [hd]), fabsent.trans (by rw [hd]), fpresent.trans (by rw [hd]), by simp [hdeliveries],
      by simp [hdeliveries], _, ?_, kinds.no_filterMissing⟩
    rw [hdeliveries, hclearing]
    simp
  case countsAbsent =>
    have hd : d = _ :=
      hdetect.trans (detectMissing_countsAbsent (keptFine.state ▸ hs) (habsent.mp ha) (keptFine.absentCount ▸ h3))
    refine ⟨fstate ?_, fabsent.trans ?_, fpresent.trans ?_⟩ <;> rw [hd]
    · exact keptFine.state ▸ hs
    · rw [← keptFine.absentCount]
    · exact keptFine.presentCount
  case notAbsent =>
    have hd : d = _ := hdetect.trans (detectMissing_notAbsent (keptFine.state ▸ hs) (mt habsent.mpr ha))
    refine ⟨fstate ?_, fabsent.trans ?_, fpresent.trans ?_⟩ <;> rw [hd]
    · exact keptFine.state ▸ hs
    · exact keptFine.presentCount
  case clears =>
    have hd : d = _ :=
      hdetect.trans (detectMissing_clears (keptFine.state ▸ hs) (hpresent.mp hp) (keptFine.presentCount ▸ h3))
    have hfresh : d.1.state ≠ .missing := by rw [hd]; exact nofun
    have hdeliveries : d.2 = [] := by rw [hd]
    have hclearing : clearingDelivery fs.fine (deriveState true fineClass d.1).1 = [.filterMissing false] :=
      if_pos ⟨hs, mt (deriveState_missing _ _ _).mp hfresh⟩
    refine ⟨fstate hfresh, fabsent.trans (by rw [hd]), fpresent.trans (by rw [hd]), by simp [hclearing], _, _, ?_,
      kinds.moves, kinds.checkpoints⟩
    rw [hdeliveries, hclearing]
    simp
  case order =>
    rw [handledStage_derivedState, deriveState_missing] at hsame
    have hdeliveries : d.2 = [] := by
      rw [hdetect, detectMissing_deliveries, ← hdetect, keptFine.state]
      exact if_neg fun h => h.1 (hsame.mp h.2)
    have hclearing : clearingDelivery fs.fine (deriveState true fineClass d.1).1 = [] :=
      if_neg fun h => h.2 ((deriveState_missing _ _ _).mpr (hsame.mpr h.1))
    refine ⟨_, _, ?_, kinds.moves, kinds.checkpoints⟩
    rw [hdeliveries, hclearing]
    simp
  case countsPresent =>
    have hd : d = _ :=
      hdetect.trans (detectMissing_countsPresent (keptFine.state ▸ hs) (hpresent.mp hp) (keptFine.presentCount ▸ h3))
    refine ⟨fmissing ?_, fpresent.trans ?_, fabsent.trans ?_⟩ <;> rw [hd]
    · exact keptFine.state ▸ hs
    · rw [← keptFine.presentCount]
    · exact keptFine.absentCount
  case notPresent =>
    have hd : d = _ := hdetect.trans (detectMissing_notPresent (keptFine.state ▸ hs) (mt hpresent.mpr hp))
    refine ⟨fmissing ?_, fpresent.trans ?_, fabsent.trans ?_⟩ <;> rw [hd]
    · exact keptFine.state ▸ hs
    · exact keptFine.absentCount
  case preState => rw [handledStage_state, if_neg (keptPre.state ▸ hs), hstep]
  case notices =>
    have hother : kind ≠ .filterMissing := by obtain ⟨rfl, -⟩ | ⟨rfl, -⟩ := hkind <;> decide
    refine ⟨?_, fun _ => ?_⟩
    · rw [kinds.mem_fine hother, handledStage_derivedState]
      exact mem_deriveState_notice (missingStep_of keptFine hdetected) hkind
    · rw [kinds.mem_pre, handledStage_derivedState]
      exact mem_deriveState_notice (missingStep_of keptPre (.refl _)) hkind
  case queuesFine =>
    obtain ⟨hitem, hrecord⟩ := handledStage_queues keptFine hdetected (htriggers ▸ ht)
    refine ⟨?_, hrecord⟩
    rw [hitems, itemsFor_handled_other (by decide), hitem]
    exact itemsFor_stageItem_own (fine := true)
  case queuesPre =>
    obtain ⟨hitem, hrecord⟩ := handledStage_queues keptPre (.refl _) (htriggers ▸ ht)
    refine ⟨?_, hrecord⟩
    rw [hitems, itemsFor_handled_other (fine := true) (by decide), hitem, List.append_nil]
    exact itemsFor_stageItem_own (fine := false)
  case holdsFine =>
    obtain ⟨hitem, hrecord⟩ := handledStage_holds keptFine hdetected (htriggers ▸ ht)
    refine ⟨?_, hrecord⟩
    rw [hitems, itemsFor_handled_other (by decide), hitem]
    rfl
  case holdsPre =>
    obtain ⟨hitem, hrecord⟩ := handledStage_holds keptPre (.refl _) (htriggers ▸ ht)
    refine ⟨?_, hrecord⟩
    rw [hitems, itemsFor_handled_other (fine := true) (by decide), hitem]
    rfl
  case others => rw [hitems, itemsFor_handled_other h1, itemsFor_handled_other h2]; rfl
  case account =>
    exact ⟨fnumber.trans (hdetected.number.trans keptFine.number), frestored.trans (hdetected.restored.trans keptFine.restored),
      fstamp.trans (hdetected.stamp.trans keptFine.stamp), pnumber.trans keptPre.number, prestored.trans keptPre.restored,
      pstamp.trans keptPre.stamp⟩

end Sys2Proof.Machine


/-! A mode change at every block (R149), the wake from Standby (R152), and the next cycle (R6). -/
namespace Sys2Proof.Machine

/-! ### The blower at a mode change (R46, R59, R64) -/

section Blower
variable {new : UnitMode} {bd : Blower}

theorem blowerMode_deliveries :
    (blowerMode new bd).2 = if restMode new then [.checkpoint (runHourItem bd.runSeconds)] else [] := rfl

theorem blowerMode_staged : (blowerMode new bd).1.staged = if new = .service then 0 else bd.staged := by
  unfold blowerMode
  dsimp only
  split_ifs <;> rfl

theorem blowerMode_applied : (blowerMode new bd).1.applied = bd.applied := by
  unfold blowerMode
  dsimp only
  split_ifs <;> rfl

theorem runMode_false_iff : runMode new = false ↔ new = .off ∨ new = .standby ∨ new = .service := by
  cases new <;> decide

theorem runEndCause_of (h : runMode new = false) :
    runEndCause new = if new = .service then .service else .mode := by
  obtain rfl | rfl | rfl := runMode_false_iff.mp h <;> rfl

/-- A Retry-Wait ends outside Run and Quiet (R59). -/
theorem blowerMode_ends (hs : bd.state = .retryWait) (h : runMode new = false) :
    (blowerMode new bd).1.state = .stopped ∧ (blowerMode new bd).1.retryLeft = none
      ∧ (blowerMode new bd).1.finish = runEndCause new := by
  simp only [blowerMode, if_pos (And.intro hs h), and_self]

/-- The blower's state stays in Run and Quiet, and at a blower that is not in Retry-Wait. -/
theorem blowerMode_goesOn (h : bd.state ≠ .retryWait ∨ runMode new = true) :
    (blowerMode new bd).1.state = bd.state ∧ (blowerMode new bd).1.finish = bd.finish := by
  have hgoes : ¬ (bd.state = .retryWait ∧ runMode new = false) := by
    rintro ⟨hs, hm⟩
    exact h.elim (· hs) (by simp [hm])
  simp only [blowerMode, if_neg hgoes]
  split <;> exact ⟨rfl, rfl⟩

end Blower

/-! ### The stages at a mode change (R112) -/

section Filters
variable {new : UnitMode} {fs : Filters}

/-- The checkpoint of a stage with the unsaved flag (R112). -/
def saveStage (fine : Bool) (r : StageRecord) : StageRecord × List Signal :=
  if r.unsaved then checkpointStage fine r else (r, [])

theorem saveStage_unsaved {fine : Bool} {r : StageRecord} (h : r.unsaved = true) :
    saveStage fine r = ({ r with checkpointLife := r.life, unsaved := false }, [.checkpoint (stageItem fine r)]) :=
  if_pos h

theorem saveStage_saved {fine : Bool} {r : StageRecord} (h : r.unsaved = false) : saveStage fine r = (r, []) :=
  if_neg (by simp [h])

theorem filtersMode_rest (h : restMode new = true) :
    filtersMode new fs = ({ fs with pre := (saveStage false fs.pre).1, fine := (saveStage true fs.fine).1 },
      (saveStage false fs.pre).2 ++ (saveStage true fs.fine).2) := if_pos h

theorem filtersMode_other (h : ¬ restMode new = true) : filtersMode new fs = (fs, []) := if_neg h

end Filters

/-! ### The pump at a mode change (R145) -/

section Pump
variable {fitted : Bool} {old new : UnitMode} {tm : Tank}

theorem pumpMode_endsRun (hp : tm.pump = .running) : pumpMode fitted old .service tm = endRun .mode tm := by
  simp [pumpMode, hp]

theorem pumpMode_endsRest (hp : tm.pump = .rest) :
    pumpMode fitted old .service tm = { tm with pump := .off, restLeft := none } := by
  simp [pumpMode, hp]

theorem pumpMode_stays (hp : tm.pump = .off ∨ tm.pump = .fault) : pumpMode fitted old .service tm = tm := by
  obtain hp | hp := hp <;> simp [pumpMode, hp]

/-- On leaving Service a run ends with Service, and the start condition is checked. -/
theorem pumpMode_leaves (hn : new ≠ .service) :
    pumpMode fitted .service new tm =
      checkPump fitted new (if tm.pump = .running then endRun .service tm else tm) :=
  (if_neg hn).trans (if_pos rfl)

theorem pumpMode_elsewhere (ho : old ≠ .service) (hn : new ≠ .service) : pumpMode fitted old new tm = tm :=
  (if_neg hn).trans (if_neg ho)

/-- A pump that is not Off starts nothing. -/
theorem checkPump_notOff {mode : UnitMode} (hp : tm.pump ≠ .off) : checkPump fitted mode tm = tm := if_neg fun h => hp h.1

end Pump

/-! ### The sequencer's deliveries at a mode change -/

section Sequencer
variable {c : Nat} {ds : Sequencer}

/-- Deliveries that tell drying-active on or off alone. -/
def TellsActive (deliveries : List Signal) : Prop := ∀ x ∈ deliveries, ∃ on, x = Signal.dryingActive on

theorem tellsActive_nil : TellsActive [] := nofun

theorem tellsActive_ifElse (b : Bool) (on : Bool) : TellsActive (if b then [.dryingActive on] else []) := by
  cases b <;> simp [TellsActive]

theorem evaluateIdle_tells : TellsActive (evaluateIdle c ds).2 := by
  unfold evaluateIdle
  split_ifs
  · exact tellsActive_nil
  · exact tellsActive_ifElse true true
  · exact tellsActive_nil

theorem goIdle_tells : TellsActive (goIdle c ds).2 := by
  intro x hx
  obtain hx | hx := List.mem_append.mp hx
  · exact tellsActive_ifElse _ _ x hx
  · exact evaluateIdle_tells x hx

theorem stopRunning_tells {cause : CompressorFinish} : TellsActive (stopRunning c cause ds).2 := by
  unfold stopRunning
  dsimp only
  split_ifs
  · exact tellsActive_ifElse _ _
  · exact goIdle_tells

theorem dsDeliver_mode_tells : TellsActive (dsDeliver c .mode ds).2 := by
  unfold dsDeliver
  split
  case h_1 =>
    split_ifs
    · unfold deliverService
      dsimp only
      split_ifs
      · exact tellsActive_nil
      · exact evaluateIdle_tells
    · exact evaluateIdle_tells
  case h_2 => split_ifs; exacts [tellsActive_nil, goIdle_tells]
  case h_3 => split_ifs; exacts [tellsActive_nil, tellsActive_nil, goIdle_tells]
  case h_4 =>
    unfold deliverRunning
    split
    · exact stopRunning_tells
    · exact tellsActive_nil
  case h_5 =>
    unfold deliverDefrost
    dsimp only
    split_ifs
    exacts [tellsActive_nil, goIdle_tells]
  case h_6 => rw [if_neg (by simp)]; exact tellsActive_nil
  case h_7 => exact tellsActive_nil

end Sequencer

/-! ### The next cycle (R6) -/

section Retime
variable {iu : Intake} {ms before : Nat}

theorem retime_stops (old : Option Nat) :
    retime old none iu = useFreeLine none { iu with nextStart := none, startDue := false } := by
  cases old <;> rfl

theorem retime_starts : retime none (some ms) iu = useFreeLine (some ms) { iu with startDue := true } := rfl

theorem retime_moves {last : Word} (h : iu.lastStart = some last) :
    retime (some before) (some ms) iu = useFreeLine (some ms) { iu with
      nextStart := some (last + BitVec.ofNat 32 ms), startDue := decide (ms ≤ (iu.timeBase - last).toNat) } := by
  simp only [retime, h]
  rfl

end Retime

/-! ### The wake from Standby (R152) -/

theorem routeLargest_wakes {s : State} {d : Nat} (hm : s.mc.mode = .standby) (ha : s.mc.settings.autoWake = true)
    (hd : s.mc.settings.wakeThreshold ≤ d) :
    route (.largestDemand d) s = ({ s with mc := { s.mc with largest := d, mode := .run } },
      [.modeChange .standby .run s.mc.source, .notice .modeChanged none]) :=
  if_pos ⟨hm, ha, hd⟩

theorem routeLargest_sleeps {s : State} {d : Nat}
    (h : s.mc.mode ≠ .standby ∨ s.mc.settings.autoWake = false ∨ d < s.mc.settings.wakeThreshold) :
    route (.largestDemand d) s = ({ s with mc := { s.mc with largest := d } }, []) := by
  refine if_neg ?_
  rintro ⟨hm, ha, hd⟩
  obtain h | h | h := h
  · exact h hm
  · simp [h] at ha
  · omega

/-! ### The delivery of a mode change -/

section Route
variable (old new : UnitMode) (oldSource : ServiceSource) (s : State)

theorem route_modeChange_deliveries :
    (route (.modeChange old new oldSource) s).2 =
      (blowerMode new s.bd).2 ++ (filtersMode new s.fs).2
        ++ (dsDeliver s.mc.settings.coilMinimum .mode { s.ds with mode := new }).2 ++ [.demandUpdate] := rfl

theorem mem_modeChange_deliveries (x : Signal) :
    x ∈ (route (.modeChange old new oldSource) s).2 ↔ x ∈ (blowerMode new s.bd).2 ∨ x ∈ (filtersMode new s.fs).2
      ∨ x ∈ (dsDeliver s.mc.settings.coilMinimum .mode { s.ds with mode := new }).2 ∨ x = .demandUpdate := by
  simp only [route_modeChange_deliveries, List.mem_append, List.mem_singleton, or_assoc]

end Route

/-- Settles O45: the blocks one by one, then the re-timing, the source change, the demanded duty and the wake. -/
theorem modeChanges : Obligations.ModeChanges := by
  unfold Obligations.ModeChanges
  refine ⟨?blocks, fun iu before ms last old => ⟨retime_stops old, retime_starts, retime_moves⟩, fun s old new under hunder => ?_,
    fun s duty => rfl, fun s d => ⟨routeLargest_wakes, routeLargest_sleeps⟩⟩
  case blocks =>
    rintro old new oldSource s t deliveries off starts hroute rfl hstarts
    have hmem := mem_modeChange_deliveries old new oldSource s
    rw [hroute] at hmem
    obtain rfl : (route (.modeChange old new oldSource) s).1 = t := by rw [hroute]
    have runs {tm : Tank} (hp : tm.pump = .off) (hl : tm.level = s.tm.level) (hn : new ≠ .service) (hyes : starts) :
        checkPump s.mc.settings.pumpFitted new tm = startRun false tm :=
      checkPump_starts hp (hstarts.mp hyes).1 hn (hl ▸ (hstarts.mp hyes).2)
    have rests {tm : Tank} (hl : tm.level = s.tm.level) (hno : ¬ starts) :
        checkPump s.mc.settings.pumpFitted new tm = tm := by
      refine if_neg ?_
      rintro ⟨-, hf, -, hlevel⟩
      exact hno (hstarts.mpr ⟨hf, hl ▸ pumpLevel_iff.mp hlevel⟩)
    refine ⟨blowerMode_staged, blowerMode_applied, fun hs hm => ?retryEnds, fun h => ?retryGoesOn, ?runEnds, ?restEnds, ?stays,
      ?leaves, ?starts, ?startsOff, ?staysOff, pumpMode_elsewhere, fun hrest => ?saves, fun ho hs => ⟨?unsaved, ?quiet⟩,
      (hmem _).mpr (.inr (.inr (.inr rfl))), fun i => Six.get_map .., ?sequencer, rfl, rfl, rfl, rfl, rfl, rfl⟩
    case retryEnds =>
      obtain ⟨hstate, hleft, hfinish⟩ := blowerMode_ends hs (runMode_false_iff.mpr hm)
      exact ⟨hstate, hleft, hfinish.trans (runEndCause_of (runMode_false_iff.mpr hm))⟩
    case retryGoesOn => exact blowerMode_goesOn (h.imp_right runMode_iff.mpr)
    case runEnds =>
      rintro rfl hp
      exact pumpMode_endsRun (fitted := s.mc.settings.pumpFitted) (old := old) hp
    case restEnds =>
      rintro rfl hp
      exact pumpMode_endsRest (fitted := s.mc.settings.pumpFitted) (old := old) hp
    case stays =>
      rintro rfl hp
      exact pumpMode_stays (fitted := s.mc.settings.pumpFitted) (old := old) hp
    case leaves =>
      rintro rfl hn hp hno
      refine (pumpMode_leaves hn).trans ?_
      rw [if_pos hp]
      exact rests rfl hno
    case starts =>
      rintro rfl hn hp hyes
      refine (pumpMode_leaves hn).trans ?_
      rw [if_pos hp]
      exact runs rfl rfl hn hyes
    case startsOff =>
      rintro rfl hn hp hyes
      refine (pumpMode_leaves hn).trans ?_
      rw [if_neg (by simp [hp])]
      exact runs hp rfl hn hyes
    case staysOff =>
      rintro rfl hn hp
      refine (pumpMode_leaves hn).trans ?_
      obtain hp | hp | ⟨hp, hno⟩ := hp
      · rw [if_neg (by simp [hp]), checkPump_notOff (by simp [hp])]
      · rw [if_neg (by simp [hp]), checkPump_notOff (by simp [hp])]
      · rw [if_neg (by simp [hp]), rests rfl hno]
    case saves =>
      have hrest : restMode new = true := restMode_iff.mpr hrest
      have hfs : (route (.modeChange old new oldSource) s).1.fs
          = { s.fs with pre := (saveStage false s.fs.pre).1, fine := (saveStage true s.fs.fine).1 } :=
        congrArg Prod.fst (filtersMode_rest hrest)
      have queued {x : Signal} (hx : x ∈ (saveStage false s.fs.pre).2 ++ (saveStage true s.fs.fine).2) : x ∈ deliveries :=
        (hmem x).mpr (.inr (.inl (by rwa [filtersMode_rest hrest])))
      rw [hfs]
      refine ⟨(hmem _).mpr (.inl ?_), fun h => ⟨queued ?_, ?_⟩, fun h => ⟨queued ?_, ?_⟩, fun h => ?_, fun h => ?_⟩
      · rw [blowerMode_deliveries, if_pos hrest]
        exact List.mem_singleton_self _
      · simp [saveStage_unsaved h]
      · simp [saveStage_unsaved h]
      · simp [saveStage_unsaved h]
      · simp [saveStage_unsaved h]
      · simp [saveStage_saved h]
      · simp [saveStage_saved h]
    case unsaved => exact congrArg Prod.fst (filtersMode_other (mt restMode_iff.mp (not_or.mpr ⟨ho, hs⟩)))
    case quiet =>
      have hno : ¬ restMode new = true := mt restMode_iff.mp (not_or.mpr ⟨ho, hs⟩)
      intro x hx
      rw [hmem, blowerMode_deliveries, if_neg hno, filtersMode_other hno] at hx
      obtain hx | hx | hx | hx := hx
      · cases hx
      · cases hx
      · obtain ⟨on, hx⟩ := dsDeliver_mode_tells _ hx
        cases hx
      · cases hx
    case sequencer =>
      rintro r rfl
      exact ⟨rfl, fun x hx => (hmem x).mpr (.inr (.inr (.inl hx)))⟩
  · subst hunder
    rfl

end Sys2Proof.Machine


/-! Load Unit Settings (R156, R157): its checks, and what a changed field does at the blocks. -/
namespace Sys2Proof.Machine

/-! ### The record that the fields spell (Table 9-2) -/

section Spelled
variable (f : SettingsFields)

/-- The unit settings that the eighteen fields spell. -/
def spelledSettings : Settings :=
  { nodeAddress := f.nodeAddress.toNat
    relayEnable := decide (f.relayEnable = 1#8)
    polarity := if f.polarity = 0#8 then .auto else if f.polarity = 1#8 then .normal else .inverted
    runProfile := Fin.ofNat 4 f.runProfile.toNat
    quietProfile := Fin.ofNat 4 f.quietProfile.toNat
    runCap := f.runCap.toNat
    quietCap := f.quietCap.toNat
    idleDuty := f.idleDuty.toNat
    coilMinimum := f.coilMinimum.toNat
    fixedShare := f.fixedShare.toNat
    holdTime := f.holdTime.toNat
    callOn := f.callOn.toInt
    callOff := f.callOff.toInt
    wakeThreshold := f.wakeThreshold.toNat
    autoWake := decide (f.autoWake = 1#8)
    pumpFitted := decide (f.pumpFitted = 1#8)
    edges := f.edges.toNat
    pulses := f.pulses.toNat }

/-- The codes among the fields name something (Table 9-2). -/
def settingsCodesKnown : Prop :=
  f.relayEnable.toNat ≤ 1 ∧ f.polarity.toNat ≤ 2 ∧ f.runProfile.toNat ≤ 3 ∧ f.quietProfile.toNat ≤ 3
    ∧ f.autoWake.toNat ≤ 1 ∧ f.pumpFitted.toNat ≤ 1

theorem polarityOf_eq (o : Byte) :
    polarityOf o =
      if o.toNat ≤ 2 then some (if o = 0#8 then .auto else if o = 1#8 then .normal else .inverted) else none := by
  by_cases h0 : o = 0#8
  · subst h0; rfl
  by_cases h1 : o = 1#8
  · subst h1; rfl
  by_cases h2 : o = 2#8
  · subst h2; rfl
  have hbig : ¬ o.toNat ≤ 2 := by bv_omega
  rw [if_neg hbig]
  unfold polarityOf
  split
  case h_4 => rfl
  all_goals omega

theorem quadOf_ofNat (o : Byte) : quadOf o = if o.toNat ≤ 3 then some (Fin.ofNat 4 o.toNat) else none := by
  by_cases h : o.toNat < 4
  · rw [quadOf_eq o h, if_pos (Nat.le_of_lt_succ h)]
    exact congrArg some (Fin.ext (Nat.mod_eq_of_lt h).symm)
  · rw [quadOf_none o (Nat.not_lt.mp h), if_neg (by omega)]

theorem settingsInRange_iff (n : Settings) :
    settingsInRange n = true ↔ 1 ≤ n.nodeAddress ∧ n.nodeAddress ≤ 30 ∧ 200 ≤ n.runCap ∧ n.runCap ≤ 1000 ∧ 200 ≤ n.quietCap
      ∧ n.quietCap ≤ 1000 ∧ n.idleDuty ≤ 400 ∧ 200 ≤ n.coilMinimum ∧ n.coilMinimum ≤ 600 ∧ n.coilMinimum ≤ n.quietCap
      ∧ n.fixedShare ≤ 1000 ∧ 10 ≤ n.holdTime ∧ n.holdTime ≤ 600 ∧ -700 ≤ n.callOn ∧ n.callOn ≤ 700
      ∧ -700 ≤ n.callOff ∧ n.callOff < n.callOn ∧ 1 ≤ n.wakeThreshold ∧ n.wakeThreshold ≤ 1000
      ∧ (n.edges = 1 ∨ n.edges = 2 ∨ n.edges = 4) ∧ 1 ≤ n.pulses ∧ n.pulses ≤ 4 := by
  simp only [settingsInRange, Bool.and_eq_true, Bool.or_eq_true, decide_eq_true_eq, beq_iff_eq, and_assoc, or_assoc]
  omega

/-- The fields of Load Unit Settings are read where they were laid out (Table 11-5). -/
theorem settingsOf_octets (hcodes : settingsCodesKnown f) :
    settingsOf (settingsOctets f) = if settingsInRange (spelledSettings f) then some (spelledSettings f) else none := by
  obtain ⟨hrelay, hpolarity, hrun, hquiet, hwake, hfitted⟩ := hcodes
  simp only [settingsInRange_iff]
  simp [settingsOf, settingsOctets, octets16, boolOf_eq, polarityOf_eq, quadOf_ofNat, hrelay, hpolarity, hrun, hquiet, hwake,
    hfitted, spelledSettings]
  rfl

theorem settingsOf_unknown (h : ¬ settingsCodesKnown f) : settingsOf (settingsOctets f) = none := by
  refine Option.eq_none_iff_forall_ne_some.mpr fun n hn => h ?_
  unfold settingsOf at hn
  split at hn
  next relay polarity run quiet wake fitted h1 h2 h3 h4 h5 h6 =>
    rw [boolOf_eq, Option.ite_none_right_eq_some] at h1 h5 h6
    rw [polarityOf_eq, Option.ite_none_right_eq_some] at h2
    rw [quadOf_ofNat, Option.ite_none_right_eq_some] at h3 h4
    exact ⟨h1.1, h2.1, h3.1, h4.1, h5.1, h6.1⟩
  · cases hn

variable (s : State)

theorem answerUnitSettings_badTable (h : ¬ (settingsCodesKnown f ∧ settingsInRange (spelledSettings f) = true)) :
    answerUnitSettings (settingsOctets f) s = refuse .badTable s := by
  have hnone : settingsOf (settingsOctets f) = none := by
    by_cases hcodes : settingsCodesKnown f
    · rw [settingsOf_octets f hcodes, if_neg fun hr => h ⟨hcodes, hr⟩]
    · exact settingsOf_unknown f hcodes
  simp only [answerUnitSettings, hnone]

variable (hcodes : settingsCodesKnown f) (hrange : settingsInRange (spelledSettings f) = true)
include hcodes hrange

theorem settingsOf_spelled : settingsOf (settingsOctets f) = some (spelledSettings f) := by
  rw [settingsOf_octets f hcodes, if_pos hrange]

theorem answerUnitSettings_busy (h : 0 < s.bd.applied) :
    answerUnitSettings (settingsOctets f) s = refuse .busy s := by
  simp only [answerUnitSettings, settingsOf_spelled f hcodes hrange]
  exact if_pos h

theorem answerUnitSettings_loaded (h : s.bd.applied = 0) :
    answerUnitSettings (settingsOctets f) s =
      carried (settle [.settingsLoaded s.mc.settings] { s with mc := { s.mc with settings := spelledSettings f } }) := by
  simp only [answerUnitSettings, settingsOf_spelled f hcodes hrange]
  exact if_neg (by omega)

end Spelled

/-! ### What a changed field does (R4, R16, R33, R55, R125, R140) -/

section Polarity
variable {before new : PolaritySetting} {iu : Intake}

theorem polarityLoaded_same (h : new = before) : polarityLoaded before new iu = iu := if_pos h.symm

theorem polarityLoaded_changed (h : new ≠ before) :
    polarityLoaded before new iu = { iu with badWindows := 0, polarity :=
      if new = .normal then .normal else if new = .inverted then .inverted else iu.polarity } := by
  refine (if_neg (Ne.symm h)).trans ?_
  cases new <;> rfl

/-- The octets that have begun stay, and the rest leave the pin in the new polarity (R16). -/
theorem polarityLoaded_octets :
    lineOctets (polarityLoaded before new iu) =
      iu.onWire ++ (iu.sending.drop iu.onWire.length).map (corrected (polarityLoaded before new iu).polarity) := by
  by_cases h : new = before
  · rw [polarityLoaded_same h]
    rfl
  · rw [polarityLoaded_changed h]
    rfl

end Polarity

section Zones
variable {seconds : Nat} {now last : Word} {z : Zone}

theorem zoneRetime_other (h : z.sample ≠ .held) : zoneRetime seconds now z = z := if_neg h

theorem zoneRetime_held (h : z.sample = .held) (hl : z.lastAccept = some last) (ht : (now - last).toNat < seconds * 1000) :
    zoneRetime seconds now z = { z with holdExpiry := some (last + BitVec.ofNat 32 (seconds * 1000)) } := by
  rw [zoneRetime, if_pos h, hl, withinHold_some, if_pos (decide_eq_true ht), holdExpiryOf, hl]
  rfl

theorem zoneRetime_passed (h : z.sample = .held) (hl : z.lastAccept = some last)
    (ht : seconds * 1000 ≤ (now - last).toNat) :
    zoneRetime seconds now z = { z with sample := .stale, holdExpiry := none } := by
  rw [zoneRetime, if_pos h, hl, withinHold_some, if_neg (by simpa using ht)]

theorem zoneRetime_never (h : z.sample = .held) (hl : z.lastAccept = none) :
    zoneRetime seconds now z = { z with sample := .stale, holdExpiry := none } := by
  rw [zoneRetime, if_pos h, hl]
  rfl

end Zones

section Sequencer
variable {before new : Nat} {ds : Sequencer}

theorem coilMinimumLoaded_unwatched (h : new = before ∨ ds.compressor = false) :
    coilMinimumLoaded before new ds = ds := by
  unfold coilMinimumLoaded
  split
  · rfl
  next hchanged =>
    have hoff : ds.compressor = false := h.resolve_left (Ne.symm hchanged)
    exact if_neg (by simp [hoff])

/-- A changed coil minimum with the output on is checked against the applied duty held (R125). -/
theorem coilMinimumLoaded_watches (h : new ≠ before) (hc : ds.compressor = true) :
    coilMinimumLoaded before new ds = { ds with
      graceLeft := if ds.applied < new then some (ds.graceLeft.getD 10000) else none } := by
  refine (if_neg (Ne.symm h)).trans ?_
  split
  next ha => exact watchGrace_low hc ha
  next ha => exact watchGrace_enough hc (Nat.not_lt.mp ha)

end Sequencer

section Fitted
variable {mode : UnitMode} {tm : Tank}

theorem fittedLoaded_same (b : Bool) : fittedLoaded mode b b tm = tm := by cases b <;> rfl

theorem fittedLoaded_endsRun (h : tm.pump = .running) :
    fittedLoaded mode true false tm = { endRun .mode tm with timeouts := 0 } := by
  simp only [fittedLoaded, if_pos h]

theorem fittedLoaded_removed (h : tm.pump ≠ .running) :
    fittedLoaded mode true false tm = { tm with pump := .off, restLeft := none, timeouts := 0 } := by
  simp only [fittedLoaded, if_neg h]

theorem fittedLoaded_added : fittedLoaded mode false true tm = checkPump true mode { tm with timeouts := 0 } := rfl

end Fitted

section Address
variable {before new : Nat} {iu : Intake}

theorem unitAddressLoaded_same (h : new = before) : unitAddressLoaded before new iu = [] := if_pos h.symm

theorem unitAddressLoaded_changed (h : new ≠ before) :
    unitAddressLoaded before new iu = [.unitState .lost]
      ++ (if reportedState new iu.nodes = .lost then [] else [.unitState (reportedState new iu.nodes)]) :=
  if_neg (Ne.symm h)

theorem unitAddressLoaded_reports (h : new ≠ before) {r : NodeRecord} (hr : findNode new iu.nodes = some r) :
    .unitState r.state ∈ unitAddressLoaded before new iu := by
  have hstate : reportedState new iu.nodes = r.state := by rw [reportedState, hr]
  rw [unitAddressLoaded_changed h, hstate]
  by_cases hl : r.state = .lost
  · simp [hl]
  · simp [hl]

end Address

/-- The blocks after the settings have been loaded (R157). -/
theorem route_settingsLoaded (before : Settings) (s : State) :
    route (.settingsLoaded before) s =
      ({ s with
          iu := polarityLoaded before.polarity s.mc.settings.polarity s.iu
          bd := edgesLoaded before.edges s.mc.settings.edges s.bd
          ds := coilMinimumLoaded before.coilMinimum s.mc.settings.coilMinimum s.ds
          tm := fittedLoaded s.mc.mode before.pumpFitted s.mc.settings.pumpFitted s.tm
          dmu := if before.holdTime = s.mc.settings.holdTime then s.dmu
            else { s.dmu with zones := s.dmu.zones.map (zoneRetime s.mc.settings.holdTime s.iu.timeBase) } },
        unitAddressLoaded before.nodeAddress s.mc.settings.nodeAddress s.iu ++ [.demandUpdate]) := rfl

/-- Settles O46: the checks of the request, then the blocks one by one. -/
theorem loadUnitSettings : Obligations.LoadUnitSettings := by
  unfold Obligations.LoadUnitSettings
  refine ⟨?request, ?blocks⟩
  case request =>
    rintro tag f s inRange new hr rfl hrange
    have hin : inRange ↔ settingsCodesKnown f ∧ settingsInRange (spelledSettings f) = true := by
      rw [hrange]
      simp only [settingsCodesKnown, and_assoc]
      rfl
    have answered (a : Answer) (ha : answerUnitSettings (settingsOctets f) s = a) :
        exec (.loadUnitSettings tag f) s = .next (replyWith tag 0x09#8 a.status a.data a.state) :=
      taken tag 0x09#8 (settingsOctets f) .loadUnitSettings hr ha rfl rfl
    refine ⟨fun h => answered _ (answerUnitSettings_badTable f s (mt hin.mpr h)), fun h hb => ?_, fun h hb => ?_⟩
    · obtain ⟨hcodes, hr⟩ := hin.mp h
      exact answered _ (answerUnitSettings_busy f s hcodes hr hb)
    · obtain ⟨hcodes, hr⟩ := hin.mp h
      exact answered _ (answerUnitSettings_loaded f s hcodes hr hb)
  case blocks =>
    rintro before new s t deliveries off starts rfl hroute rfl hstarts
    rw [route_settingsLoaded] at hroute
    obtain ⟨rfl, rfl⟩ := Prod.mk.inj hroute
    have runs {tm : Tank} (hp : tm.pump = .off) (hl : tm.level = s.tm.level) (hyes : starts) :
        checkPump true s.mc.mode tm = startRun false tm :=
      checkPump_starts hp rfl (hstarts.mp hyes).1 (hl ▸ (hstarts.mp hyes).2)
    have rests {tm : Tank} (hl : tm.level = s.tm.level) (hno : ¬ starts) : checkPump true s.mc.mode tm = tm := by
      refine if_neg ?_
      rintro ⟨-, -, hm, hlevel⟩
      exact hno (hstarts.mpr ⟨hm, hl ▸ pumpLevel_iff.mp hlevel⟩)
    refine ⟨polarityLoaded_same, polarityLoaded_changed, polarityLoaded_octets, fun h => if_pos h.symm, fun h => ?hold,
      coilMinimumLoaded_unwatched, coilMinimumLoaded_watches, fun h x hx => ?sameAddress, fun h => ⟨?lost, fun r hr => ?found⟩,
      fun h => if_pos h.symm, fun h => if_neg (Ne.symm h), fun h => ?sameFitted, ?endsRun, ?removed, ?starts, ?rests,
      by simp, rfl, rfl, rfl, rfl, rfl, rfl⟩
    case hold =>
      simp only [if_neg (Ne.symm h), true_and, Six.get_map]
      rintro i z hold rfl rfl
      exact ⟨zoneRetime_other, fun last => zoneRetime_held, fun last => zoneRetime_passed, zoneRetime_never⟩
    case sameAddress =>
      rw [unitAddressLoaded_same h] at hx
      simp at hx
    case lost => simp [unitAddressLoaded_changed h]
    case found => exact List.mem_append_left _ (unitAddressLoaded_reports h hr)
    case sameFitted =>
      dsimp only
      rw [h]
      exact fittedLoaded_same _
    case endsRun =>
      intro hb hn hp
      dsimp only
      rw [hb, hn, fittedLoaded_endsRun hp]
      rfl
    case removed =>
      intro hb hn hp
      dsimp only
      rw [hb, hn, fittedLoaded_removed hp]
    case starts =>
      intro hb hn hp hyes
      dsimp only
      rw [hb, hn, fittedLoaded_added]
      exact runs hp rfl hyes
    case rests =>
      intro hb hn hp hno
      dsimp only
      rw [hb, hn, fittedLoaded_added]
      exact rests rfl hno

end Sys2Proof.Machine


/-! The Service Drives of a single part (R153, R154). -/
namespace Sys2Proof.Machine

/-! ### The checks of R153 -/

section Drive
variable {s : State} {parts : Byte} {octets : List Byte} {p : ServiceParts}

theorem answerDrive_badMode (fields : List Byte) (h : s.mc.mode ≠ .service) : answerDrive fields s = refuse .badMode s :=
  if_pos h

variable (hm : s.mc.mode = .service) (hp : drivePartsOf parts octets = some p)
include hm hp

theorem answerDrive_badIndex (h : p.dampers.any (fun t => decide (6 ≤ t.1.toNat)) = true) :
    answerDrive (parts :: octets) s = refuse .badIndex s := by
  simp [answerDrive, hm, hp, h]

variable (hi : p.dampers.any (fun t => decide (6 ≤ t.1.toNat)) = false)
include hi

theorem answerDrive_badTable (h : driveBad parts p = true) : answerDrive (parts :: octets) s = refuse .badTable s := by
  simp [answerDrive, hm, hp, hi, h]

variable (hb : driveBad parts p = false)
include hb

theorem answerDrive_pumpRefused {status : Status} (h : pumpCheck p s = some status) :
    answerDrive (parts :: octets) s = refuse status s := by
  simp [answerDrive, hm, hp, hi, hb, h]

variable (hpump : pumpCheck p s = none)
include hpump

theorem answerDrive_busy (h : compressorCheck p s = true) : answerDrive (parts :: octets) s = refuse .busy s := by
  simp [answerDrive, hm, hp, hi, hb, hpump, h]

theorem answerDrive_done (h : compressorCheck p s = false) :
    answerDrive (parts :: octets) s = carried (driveParts p s) := by
  simp [answerDrive, hm, hp, hi, hb, hpump, h]

end Drive

/-! ### The four kinds of parts -/

/-- A drive of the blower alone. -/
def blowerPart (demand : Half) : ServiceParts := ⟨some demand, [], none, none⟩

/-- A drive of dampers alone. -/
def damperPart (targets : List (Byte × Half)) : ServiceParts := ⟨none, targets, none, none⟩

/-- A drive of the pump alone. -/
def pumpPart (on : Bool) : ServiceParts := ⟨none, [], some (boolCode on), none⟩

/-- A drive of the compressor alone. -/
def compressorPart (on : Bool) : ServiceParts := ⟨none, [], none, some (boolCode on)⟩

theorem drivePartsOf_blower (demand : Half) : drivePartsOf 0x01#8 [hi demand, lo demand] = some (blowerPart demand) := by
  simp [drivePartsOf, blowerPart]

theorem drivePartsOf_pump (on : Bool) : drivePartsOf 0x04#8 [boolCode on] = some (pumpPart on) := rfl

theorem drivePartsOf_compressor (on : Bool) : drivePartsOf 0x08#8 [boolCode on] = some (compressorPart on) := rfl

/-- The octets of damper targets, three for each (Table 11-5). -/
def targetOctets3 (targets : List (Byte × Half)) : List Byte := targets.flatMap fun t => [t.1] ++ octets16 t.2

theorem driveTargets_octets (targets : List (Byte × Half)) :
    driveTargets targets.length (targetOctets3 targets) = some (targets, []) := by
  induction targets with
  | nil => rfl
  | cons t rest ih =>
    have hcons : targetOctets3 (t :: rest) = t.1 :: hi t.2 :: lo t.2 :: targetOctets3 rest := rfl
    simp [hcons, driveTargets, ih]

theorem drivePartsOf_dampers (targets : List (Byte × Half)) (h : targets.length ≤ 255) :
    drivePartsOf 0x02#8 (octet targets.length :: targetOctets3 targets) = some (damperPart targets) := by
  have hcount : (octet targets.length).toNat = targets.length := toNat_octet (by omega)
  simp [drivePartsOf, hcount, driveTargets_octets, damperPart]

theorem driveBad_blower (demand : Half) : driveBad 0x01#8 (blowerPart demand) = decide (1000 < demand.toNat) := by
  simp [driveBad, blowerPart, namedTwice, switchBad]

theorem driveBad_pump (on : Bool) : driveBad 0x04#8 (pumpPart on) = false := by cases on <;> rfl

theorem driveBad_compressor (on : Bool) : driveBad 0x08#8 (compressorPart on) = false := by cases on <;> rfl

theorem namedTwice_iff (targets : List (Byte × Half)) : namedTwice targets = true ↔ ¬ (targets.map Prod.fst).Nodup := by
  induction targets with
  | nil => simp [namedTwice]
  | cons t rest ih =>
    simp only [namedTwice, Bool.or_eq_true, ih, List.map_cons, List.nodup_cons, not_and_or, not_not]
    refine or_congr_left ?_
    simp only [List.any_eq_true, beq_iff_eq, List.mem_map]

theorem driveBad_dampers (targets : List (Byte × Half)) :
    driveBad 0x02#8 (damperPart targets) = true ↔ (∃ t ∈ targets, 2000 < t.2.toNat) ∨ ¬ (targets.map Prod.fst).Nodup := by
  rw [← namedTwice_iff]
  simp [driveBad, damperPart, switchBad]

/-! ### The dampers driven (R154) -/

section Dampers
variable {targets : List (Byte × Half)} {dampers : Six Damper}

/-- The dampers after a drive of them, one target after another. -/
def drivenDampers (targets : List (Byte × Half)) (dampers : Six Damper) : Six Damper :=
  targets.foldl (fun d t => driveDamper t d) dampers

theorem driveDamper_get (t : Byte × Half) (i : Fin 6) :
    (driveDamper t dampers).get i =
      if t.1.toNat = i.val then takeTarget true t.2.toNat (dampers.get i) else dampers.get i := by
  unfold driveDamper
  by_cases h : t.1.toNat < 6
  · simp only [sixOf_eq t.1 h, Six.get_set, Fin.ext_iff, eq_comm (a := i.val)]
    split
    next he =>
      obtain rfl : (⟨t.1.toNat, h⟩ : Fin 6) = i := Fin.ext he
      rfl
    · rfl
  · have hne : t.1.toNat ≠ i.val := by omega
    rw [sixOf_none t.1 (Nat.not_lt.mp h), if_neg hne]

theorem drivenDampers_other {i : Fin 6} (h : ∀ t ∈ targets, t.1.toNat ≠ i.val) :
    (drivenDampers targets dampers).get i = dampers.get i := by
  induction targets generalizing dampers with
  | nil => rfl
  | cons t rest ih =>
    obtain ⟨ht, hrest⟩ := List.forall_mem_cons.mp h
    refine (ih (dampers := driveDamper t dampers) hrest).trans ?_
    rw [driveDamper_get, if_neg ht]

theorem drivenDampers_named {i : Fin 6} {t : Byte × Half} (hn : (targets.map Prod.fst).Nodup) (ht : t ∈ targets)
    (hi : t.1.toNat = i.val) : (drivenDampers targets dampers).get i = takeTarget true t.2.toNat (dampers.get i) := by
  induction targets generalizing dampers with
  | nil => cases ht
  | cons u rest ih =>
    rw [List.map_cons, List.nodup_cons] at hn
    obtain ⟨hu, hrest⟩ := hn
    obtain rfl | ht := List.mem_cons.mp ht
    · have hothers : ∀ x ∈ rest, x.1.toNat ≠ i.val := fun x hx hxi =>
        hu (List.mem_map.mpr ⟨x, hx, BitVec.eq_of_toNat_eq (hxi.trans hi.symm)⟩)
      refine (drivenDampers_other (dampers := driveDamper t dampers) hothers).trans ?_
      rw [driveDamper_get, if_pos hi]
    · have hother : u.1.toNat ≠ i.val := fun hui =>
        hu (List.mem_map.mpr ⟨t, ht, BitVec.eq_of_toNat_eq (hi.trans hui.symm)⟩)
      refine (ih (dampers := driveDamper u dampers) hrest ht).trans ?_
      rw [driveDamper_get, if_neg hother]

end Dampers

section Target
variable {d : Damper} {target : Nat}

/-- A Service Drive differs from a delivered target at an Unhomed damper alone (Table 4-4). -/
theorem takeTarget_service_same (h : d.state ≠ .unhomed) : takeTarget true target d = takeTarget false target d := by
  unfold takeTarget
  cases hs : d.state with
  | unhomed => exact absurd hs h
  | unfitted | homing | faulted | settled | moving | waiting => rfl

theorem takeTarget_service_homes (h : d.state = .unhomed) :
    takeTarget true target d = startHoming { d with target := some (min target d.entry.travel) } := by
  simp [takeTarget, h]

end Target

/-! ### The pump and the compressor driven (R133, R146) -/

section Pump
variable {s : State}

theorem pumpCheck_on : pumpCheck (pumpPart true) s = pumpRefusal s.mc.settings.pumpFitted s.tm := if_pos rfl

theorem pumpCheck_off : pumpCheck (pumpPart false) s = none := if_neg (by decide)

theorem pumpRefusal_level {fitted : Bool} {tm : Tank} (h : tm.level = .absent ∨ tm.level = .unsettled) :
    pumpRefusal fitted tm = some .badMode := if_pos h

theorem pumpRefusal_busy {fitted : Bool} {tm : Tank} (ha : tm.level ≠ .absent) (hu : tm.level ≠ .unsettled)
    (h : fitted = false ∨ tm.pump = .fault) : pumpRefusal fitted tm = some .busy :=
  (if_neg (not_or.mpr ⟨ha, hu⟩)).trans (if_pos h)

theorem pumpRefusal_none {fitted : Bool} {tm : Tank} (ha : tm.level ≠ .absent) (hu : tm.level ≠ .unsettled)
    (hf : fitted = true) (hp : tm.pump ≠ .fault) : pumpRefusal fitted tm = none :=
  (if_neg (not_or.mpr ⟨ha, hu⟩)).trans (if_neg (not_or.mpr ⟨by simp [hf], hp⟩))

theorem compressorCheck_on : compressorCheck (compressorPart true) s =
    (!s.ds.service && refusesCompressor s.mc.settings.coilMinimum s.ds) := rfl

theorem compressorCheck_off : compressorCheck (compressorPart false) s = false := rfl

theorem refusesCompressor_iff {c : Nat} {ds : Sequencer} :
    refusesCompressor c ds = true ↔ ds.tankBlocked = true ∨ (∃ n, ds.offLeft = some n) ∨ ds.applied < c
      ∨ ds.state = .lockout := by
  simp [refusesCompressor, Option.isSome_iff_exists, or_assoc]

end Pump

section Driven
variable {s : State}

/-- A drive of the pump alone: the pump, and what the service record takes (R155). -/
theorem driveParts_pump {on : Bool} {tm : Tank} (h : (if on then servicePumpOn s.tm else servicePumpOff s.tm) = tm) :
    driveParts (pumpPart on) s =
      { s with tm := tm, mc := { s.mc with record := { s.mc.record with pump := some on } } } := by
  subst h
  cases on <;> rfl

/-- A drive of the compressor alone: the sequencer, and what the service record takes (R155). -/
theorem driveParts_compressor {on : Bool} {ds : Sequencer} (h : (if on then serviceOn s.ds else serviceOff s.ds) = ds) :
    driveParts (compressorPart on) s =
      { s with ds := ds, mc := { s.mc with record := { s.mc.record with compressor := some on } } } := by
  subst h
  cases on <;> rfl

end Driven

/-- Settles O47: the six rows, each by the checks of R153 and by the part that it drives. -/
theorem serviceDrives : Obligations.ServiceDrives := by
  unfold Obligations.ServiceDrives
  intro tag s hr
  have answered (fields : List Byte) {a : Answer} (ha : answerDrive fields s = a) :
      (Host.Outcome.next (receiveRequest tag (0x17#8 :: fields) s) : Host.Outcome State Fault Refusal) =
        .next (replyWith tag 0x17#8 a.status a.data a.state) :=
    taken tag 0x17#8 fields .serviceDrive hr ha rfl rfl
  refine ⟨fun demand => ?blower, fun targets hlength => ?dampers, fun d target => ?target, fun hm => ?badMode,
    ?pumpOn, ?pumpOff, ?compressorOn, ?compressorOff⟩
  case blower =>
    refine ⟨fun hm => answered _ (answerDrive_badMode _ hm), fun hm h => ?_, fun hm h => ?_⟩
    · exact answered _ (answerDrive_badTable hm (drivePartsOf_blower demand) rfl
        ((driveBad_blower demand).trans (decide_eq_true h)))
    · exact answered _ (answerDrive_done hm (drivePartsOf_blower demand) rfl
        ((driveBad_blower demand).trans (decide_eq_false (by omega))) rfl rfl)
  case dampers =>
    have hparts := drivePartsOf_dampers targets hlength
    have known (h : ∀ t ∈ targets, t.1.toNat < 6) : targets.any (fun t => decide (6 ≤ t.1.toNat)) = false := by
      simpa using h
    refine ⟨fun hm => answered _ (answerDrive_badMode _ hm), fun hm h => ?_, fun hm h hbad => ?_, fun hm h hrange hn => ?_⟩
    · exact answered _ (answerDrive_badIndex hm hparts (by simpa [damperPart] using h))
    · exact answered _ (answerDrive_badTable hm hparts (known h) ((driveBad_dampers targets).mpr hbad))
    · have hgood : driveBad 0x02#8 (damperPart targets) = false := by
        refine Bool.eq_false_iff.mpr (mt (driveBad_dampers targets).mp ?_)
        rintro (⟨t, ht, hbig⟩ | hdouble)
        · exact absurd (hrange t ht) (by omega)
        · exact hdouble hn
      exact ⟨drivenDampers targets s.dp.dampers, answered _ (answerDrive_done hm hparts (known h) hgood rfl rfl),
        fun i t ht hi => drivenDampers_named hn ht hi, fun i ho => drivenDampers_other ho⟩
  case target =>
    refine ⟨takeTarget_service_same, fun h hs => ?_, fun h hs h0 => ?_, fun h hs h0 => ?_⟩
    · exact (takeTarget_service_homes h).trans (startHoming_open (d := { d with target := some (min target d.entry.travel) }) hs)
    · refine (takeTarget_service_homes h).trans ?_
      rw [h0]
      exact startHoming_closed (d := { d with target := some 0 }) hs (.inr rfl)
    · exact (takeTarget_service_homes h).trans
        (startHoming_opens (d := { d with target := some (min target d.entry.travel) }) hs rfl h0)
  case badMode =>
    exact ⟨answered _ (answerDrive_badMode _ hm), answered _ (answerDrive_badMode _ hm), answered _ (answerDrive_badMode _ hm),
      answered _ (answerDrive_badMode _ hm)⟩
  case pumpOn =>
    rintro on rfl hm
    have refused {status : Status} (h : pumpRefusal s.mc.settings.pumpFitted s.tm = some status) :=
      answered _ (answerDrive_pumpRefused hm (drivePartsOf_pump true) rfl (driveBad_pump true) (pumpCheck_on.trans h))
    have driven (h : pumpRefusal s.mc.settings.pumpFitted s.tm = none) {tm : Tank} (ht : servicePumpOn s.tm = tm) :=
      answered _ ((answerDrive_done hm (drivePartsOf_pump true) rfl (driveBad_pump true) (pumpCheck_on.trans h) rfl).trans
        (congrArg carried (driveParts_pump (on := true) ht)))
    exact ⟨fun h => refused (pumpRefusal_level h), fun ha hu h => refused (pumpRefusal_busy ha hu h),
      fun ha hu hf hp => driven (pumpRefusal_none ha hu hf (by simp [hp])) (if_pos hp),
      fun ha hu hf hp => driven (pumpRefusal_none ha hu hf (by simp [hp])) (if_neg (by simp [hp]))⟩
  case pumpOff =>
    rintro off rfl hm
    have driven {tm : Tank} (ht : servicePumpOff s.tm = tm) :=
      answered _ ((answerDrive_done hm (drivePartsOf_pump false) rfl (driveBad_pump false) pumpCheck_off rfl).trans
        (congrArg carried (driveParts_pump (on := false) ht)))
    refine ⟨fun hp hs => driven (if_pos ⟨hp, hs⟩), fun h => driven (if_neg ?_)⟩
    rintro ⟨hp, hs⟩
    exact h.elim (· hp) (by simp [hs])
  case compressorOn =>
    rintro on refused rfl hrefused hm
    have hrefused : refused ↔ refusesCompressor s.mc.settings.coilMinimum s.ds = true :=
      hrefused.trans refusesCompressor_iff.symm
    have driven (h : compressorCheck (compressorPart true) s = false) {ds : Sequencer} (hd : serviceOn s.ds = ds) :=
      answered _ ((answerDrive_done hm (drivePartsOf_compressor true) rfl (driveBad_compressor true) rfl h).trans
        (congrArg carried (driveParts_compressor (on := true) hd)))
    refine ⟨fun hs h => ?_, fun hs h => ?_, fun hs => ?_⟩
    · exact answered _ (answerDrive_busy hm (drivePartsOf_compressor true) rfl (driveBad_compressor true) rfl
        (by simp [compressorCheck_on, hs, hrefused.mp h]))
    · exact driven (by simp [compressorCheck_on, hs, mt hrefused.mpr h]) (if_neg (by simp [hs]))
    · exact driven (by simp [compressorCheck_on, hs]) (if_pos hs)
  case compressorOff =>
    rintro off rfl hm
    have driven {ds : Sequencer} (hd : serviceOff s.ds = ds) :=
      answered _ ((answerDrive_done hm (drivePartsOf_compressor false) rfl (driveBad_compressor false) rfl
        compressorCheck_off).trans (congrArg carried (driveParts_compressor (on := false) hd)))
    exact ⟨fun hs => driven (if_pos hs), fun hs => driven (if_neg (by simp [hs]))⟩

end Sys2Proof.Machine


/-! Store Read and Store Write (R164, R165), the write queue (R162), and the writes word by word (R161). -/
namespace Sys2Proof.Machine

/-! ### Store Read (R165) -/

section Read
variable (address : Half) (count : Byte) (s : State)

/-- The fields of Store Read after its number (Table 11-5). -/
def storeReadFields : List Byte := [hi address, lo address, count]

theorem answerStoreRead_of :
    answerStoreRead (storeReadFields address count) s =
      if count.toNat = 0 ∨ 32 < count.toNat then refuse .badLength s
      else if 1024 < address.toNat + count.toNat then refuse .badAddress s
      else ⟨.done, Memory.readAll s.nvs.cells address.toNat count.toNat, s⟩ := by
  simp [answerStoreRead, storeReadFields]

theorem readAll_getElem (cells : List Host.Cell) (n a k : Nat) (h : k < n) :
    (Memory.readAll cells a n)[k]? = some (Memory.read cells (a + k)) := by
  induction n generalizing a k with
  | zero => omega
  | succ n ih =>
    cases k with
    | zero => rfl
    | succ k =>
      refine (ih (a + 1) k (by omega)).trans ?_
      rw [Nat.add_right_comm, Nat.add_assoc]

end Read

/-! ### Store Write (R164) -/

section Write
variable (address : Half) (data : Word) (s : State)

/-- The fields of Store Write after its number (Table 11-5). -/
def storeWriteFields : List Byte := [hi address, lo address] ++ octets32 data

theorem otherPanelWaits_iff (a : Nat) (queue : List StoreItem) :
    otherPanelWaits a queue = true ↔ ∃ x ∈ queue, ∃ b, x.target = .panel b ∧ b ≠ a := by
  unfold otherPanelWaits
  rw [List.any_eq_true]
  refine exists_congr fun x => and_congr_right fun _ => ?_
  cases x.target <;> simp

theorem answerStoreWrite_of :
    answerStoreWrite (storeWriteFields address data) s =
      if address.toNat < 512 ∨ 1020 < address.toNat ∨ address.toNat % 4 ≠ 0 then refuse .badAddress s
      else if otherPanelWaits address.toNat s.nvs.queue then refuse .full s
      else carried { s with nvs := handItem ⟨.panel address.toNat, octets32 data⟩ s.nvs } := by
  have haddress : numAt 0 (storeWriteFields address data) = address.toNat := by simp [storeWriteFields]
  have hdata : ((storeWriteFields address data).drop 2).take 4 = octets32 data := rfl
  simp only [answerStoreWrite, haddress, hdata]

end Write

/-! ### The write queue (R162) -/

section Queue
variable {item : StoreItem} {nvs : Store} {w : StoreWriting}

theorem queueItem_replaces {x : StoreItem} {before after : List StoreItem} (hx : x.target = item.target)
    (hb : ∀ y ∈ before, y.target ≠ item.target) :
    queueItem item (before ++ x :: after) = before ++ item :: after := by
  induction before with
  | nil => exact if_pos hx
  | cons y before ih =>
    obtain ⟨hy, hrest⟩ := List.forall_mem_cons.mp hb
    exact (if_neg hy).trans (congrArg (y :: ·) (ih hrest))

theorem queueItem_joins {queue : List StoreItem} (h : ∀ y ∈ queue, y.target ≠ item.target) :
    queueItem item queue = queue ++ [item] := by
  induction queue with
  | nil => rfl
  | cons y queue ih =>
    obtain ⟨hy, hrest⟩ := List.forall_mem_cons.mp h
    exact (if_neg hy).trans (congrArg (y :: ·) (ih hrest))

theorem beginWrite_busy (h : nvs.current = some w) : beginWrite nvs = nvs := by
  unfold beginWrite
  rw [h]

theorem beginWrite_empty (h : nvs.queue = []) : beginWrite nvs = nvs := by
  unfold beginWrite
  rw [h]
  cases nvs.current <;> rfl

/-- The store with the words of an item erased (R161 step 1). -/
def erasedCells (item : StoreItem) (cells : List Host.Cell) : List Host.Cell :=
  Memory.writeAll cells (targetAddress item.target) (List.replicate item.octets.length Memory.erased)

theorem beginWrite_begins {rest : List StoreItem} (hc : nvs.current = none) (hq : nvs.queue = item :: rest) :
    beginWrite nvs = ⟨erasedCells item nvs.cells, rest, some ⟨item, item.octets.length / 4, 4⟩⟩ := by
  unfold beginWrite
  rw [hc, hq]
  rfl

theorem read_erasedCells {cells : List Host.Cell} (wf : Memory.wf cells = true) (a : Nat) :
    Memory.read (erasedCells item cells) a =
      if targetAddress item.target ≤ a ∧ a < targetAddress item.target + item.octets.length then 0xFF#8
      else Memory.read cells a := by
  rw [erasedCells, Memory.read_writeAll wf, List.length_replicate]
  split
  next h =>
    have hin : a - targetAddress item.target < item.octets.length := by omega
    rw [List.getD_eq_getElem _ _ (by simpa using hin), List.getElem_replicate]
    rfl
  · rfl

theorem handItem_busy {queue : List StoreItem} (hc : nvs.current = some w) (hq : queueItem item nvs.queue = queue) :
    handItem item nvs = { nvs with queue := queue } := by
  rw [handItem, hq]
  exact beginWrite_busy (nvs := { nvs with queue := queue }) hc

theorem handItem_idle (hc : nvs.current = none) (hq : nvs.queue = []) :
    handItem item nvs = ⟨erasedCells item nvs.cells, [], some ⟨item, item.octets.length / 4, 4⟩⟩ := by
  rw [handItem, hq]
  exact beginWrite_begins (nvs := { nvs with queue := [item] }) hc rfl

/-! ### The writes word by word (R161) -/

/-- The store with word `k` of an item written. -/
def writtenCells (item : StoreItem) (k : Nat) (cells : List Host.Cell) : List Host.Cell :=
  Memory.writeAll cells (targetAddress item.target + 4 * k) ((item.octets.drop (4 * k)).take 4)

theorem wf_writtenCells {k : Nat} {cells : List Host.Cell} (wf : Memory.wf cells = true) :
    Memory.wf (writtenCells item k cells) = true := Memory.wf_writeAll wf

theorem read_writtenCells {k : Nat} {cells : List Host.Cell} (wf : Memory.wf cells = true)
    (hk : 4 * k + 4 ≤ item.octets.length) (a : Nat) :
    Memory.read (writtenCells item k cells) a =
      if targetAddress item.target + 4 * k ≤ a ∧ a < targetAddress item.target + 4 * k + 4 then
        item.octets.getD (4 * k + (a - (targetAddress item.target + 4 * k))) 0xFF#8
      else Memory.read cells a := by
  have hlength : ((item.octets.drop (4 * k)).take 4).length = 4 := by
    rw [List.length_take, List.length_drop]
    omega
  rw [writtenCells, Memory.read_writeAll wf, hlength]
  split
  next h =>
    have hin : a - (targetAddress item.target + 4 * k) < 4 := by omega
    rw [List.getD_eq_getElem _ _ (by omega), List.getD_eq_getElem _ _ (by omega), List.getElem_take, List.getElem_drop]
  · rfl

theorem wordDone_none (h : nvs.current = none) : wordDone nvs = nvs := by
  unfold wordDone
  rw [h]

variable {k : Nat}

/-- A word other than the first is written, and the next lower one follows. -/
theorem wordDone_more (h : nvs.current = some w) (hw : w.wordsLeft = k + 1) (hk : 0 < k) :
    wordDone nvs = ⟨writtenCells w.item k nvs.cells, nvs.queue, some ⟨w.item, k, 4⟩⟩ := by
  have hleft : w.wordsLeft - 1 = k := by omega
  simp only [wordDone, h, hleft]
  exact if_neg (by omega)

/-- With the first word written the write ends, and the item at the front begins. -/
theorem wordDone_last (h : nvs.current = some w) (hw : w.wordsLeft = 1) :
    wordDone nvs = beginWrite ⟨writtenCells w.item 0 nvs.cells, nvs.queue, none⟩ := by
  have hleft : w.wordsLeft - 1 = 0 := by omega
  simp only [wordDone, h, hleft]
  exact if_pos trivial

end Queue

/-- Settles O48: the two requests by their checks, the queue with and without a write in progress, and the end of a word. -/
theorem storeRequestsAndWrites : Obligations.StoreRequestsAndWrites := by
  unfold Obligations.StoreRequestsAndWrites
  refine ⟨fun tag address s hr => ⟨fun count => ?read, fun data waits hwaits => ?write⟩, ?busy, ?idle, ?noWrite, ?word⟩
  case read =>
    have answered (a : Answer) (ha : answerStoreRead (storeReadFields address count) s = a) :
        exec (.storeRead tag address count) s = .next (replyWith tag 0x19#8 a.status a.data a.state) :=
      taken tag 0x19#8 (storeReadFields address count) .storeRead hr ha rfl rfl
    refine ⟨fun h => ?_, fun h1 h32 h => ?_, fun h1 h32 h => ⟨Memory.readAll s.nvs.cells address.toNat count.toNat,
      readAll_length .., readAll_getElem _ _ _, ?_⟩⟩
    · exact answered _ ((answerStoreRead_of address count s).trans (if_pos h))
    · exact answered _ ((answerStoreRead_of address count s).trans ((if_neg (by omega)).trans (if_pos h)))
    · exact answered _ ((answerStoreRead_of address count s).trans ((if_neg (by omega)).trans (if_neg (by omega))))
  case write =>
    have hwaits : waits ↔ otherPanelWaits address.toNat s.nvs.queue = true := hwaits.trans (otherPanelWaits_iff ..).symm
    have answered (a : Answer) (ha : answerStoreWrite (storeWriteFields address data) s = a) :
        exec (.storeWrite tag address data) s = .next (replyWith tag 0x1A#8 a.status a.data a.state) :=
      taken tag 0x1A#8 (storeWriteFields address data) .storeWrite hr ha rfl rfl
    refine ⟨fun h => ?_, fun h1 h2 h3 h => ?_, fun h1 h2 h3 h => ?_⟩
    · exact answered _ ((answerStoreWrite_of address data s).trans (if_pos h))
    · exact answered _ ((answerStoreWrite_of address data s).trans ((if_neg (by omega)).trans (if_pos (hwaits.mp h))))
    · exact answered _ ((answerStoreWrite_of address data s).trans ((if_neg (by omega)).trans (if_neg (mt hwaits.mpr h))))
  case busy =>
    intro item nvs w hc
    refine ⟨fun before x after hq hx hb => handItem_busy hc ?_, fun h => handItem_busy hc (queueItem_joins h)⟩
    rw [hq, queueItem_replaces hx hb]
  case idle => exact fun item nvs wf hc hq => ⟨_, handItem_idle hc hq, read_erasedCells wf⟩
  case noWrite =>
    intro s h
    exact congrArg (fun nvs => Host.Outcome.next { s with nvs := nvs }) (wordDone_none h)
  case word =>
    rintro s w k base wf hc hw rfl hk
    have done {nvs : Store} (h : wordDone s.nvs = nvs) : exec .nvsWordDone s = .next { s with nvs := nvs } := by
      rw [← h]
      rfl
    refine ⟨writtenCells w.item k s.nvs.cells, read_writtenCells wf hk, fun h => done (wordDone_more hc hw h), ?_, ?_⟩
    · rintro rfl hq
      refine done ((wordDone_last hc hw).trans ?_)
      rw [hq]
      exact beginWrite_empty rfl
    · rintro item rest rfl hq
      refine ⟨erasedCells item (writtenCells w.item 0 s.nvs.cells), read_erasedCells (wf_writtenCells wf),
        done ((wordDone_last hc hw).trans ?_)⟩
      rw [hq]
      exact beginWrite_begins rfl rfl

end Sys2Proof.Machine


/-! Load Poll List (R3 to R5): its checks, the records rebuilt, the new cycle, and what it delivers. -/
namespace Sys2Proof.Machine

/-! ### The checks of R3 -/

section Checks
variable {entries : List (Byte × Byte)} {new : List PollEntry}

theorem formOf_none {o : Byte} (h : 2 < o.toNat) : formOf o = none := by
  unfold formOf
  split
  case h_4 => rfl
  all_goals omega

/-- The octets of the entries spell the poll list (Table 11-5). -/
theorem entriesOf_spelled (ha : entries.map (fun e => e.1.toNat) = new.map PollEntry.address)
    (hf : entries.map (fun e => e.2.toNat) = new.map (fun e => (formCode e.form).toNat)) :
    entriesOf entries = some new := by
  induction entries generalizing new with
  | nil =>
    cases new with
    | nil => rfl
    | cons e rest => simp at ha
  | cons e entries ih =>
    cases new with
    | nil => simp at ha
    | cons x rest =>
      obtain ⟨a, f⟩ := e
      obtain ⟨address, form⟩ := x
      obtain ⟨rfl, hrestAddresses⟩ := List.cons.inj ha
      obtain ⟨hform, hrestForms⟩ := List.cons.inj hf
      obtain rfl : f = formCode form := BitVec.eq_of_toNat_eq hform
      simp only [entriesOf, formOf_formCode, ih hrestAddresses hrestForms]

theorem entriesOf_unknown (h : ∃ e ∈ entries, 2 < e.2.toNat) : entriesOf entries = none := by
  induction entries with
  | nil => simp at h
  | cons e entries ih =>
    obtain ⟨a, f⟩ := e
    obtain ⟨x, hx, hbig⟩ := h
    obtain rfl | hx := List.mem_cons.mp hx
    · simp only [entriesOf, formOf_none hbig]
    · simp only [entriesOf, ih ⟨x, hx, hbig⟩]
      cases formOf f <;> rfl

theorem pollListBad_iff :
    pollListBad new = true ↔ 16 < new.length ∨ (∃ e ∈ new, e.address = 0 ∨ 30 < e.address)
      ∨ 12 < (namedAddresses new).length ∨ ∃ e ∈ new, ∃ x ∈ new, x.address = e.address ∧ x.form ≠ e.form := by
  simp [pollListBad, or_assoc]

variable (count : Byte) (s : State)

/-- The fields of Load Poll List after its number (Table 11-5). -/
def pollListFields (count : Byte) (entries : List (Byte × Byte)) : List Byte :=
  count :: entries.flatMap fun e => [e.1, e.2]

theorem answerPollList_badLength (h : entries.length ≠ count.toNat) :
    answerPollList (pollListFields count entries) s = refuse .badLength s :=
  if_neg (by rw [length_flatMap_pair]; omega)

variable (h : entries.length = count.toNat)
include h

theorem answerPollList_unknownForm (hf : entriesOf entries = none) :
    answerPollList (pollListFields count entries) s = refuse .badTable s := by
  refine (if_pos (by rw [length_flatMap_pair]; omega)).trans ?_
  rw [pairs_flatMap, hf]

theorem answerPollList_bad (hf : entriesOf entries = some new) (hb : pollListBad new = true) :
    answerPollList (pollListFields count entries) s = refuse .badTable s := by
  refine (if_pos (by rw [length_flatMap_pair]; omega)).trans ?_
  rw [pairs_flatMap, hf]
  exact if_pos hb

theorem answerPollList_loaded (hf : entriesOf entries = some new) (hb : ¬ pollListBad new = true) {iu : Intake}
    {deliveries : List Signal} (hl : (iu, deliveries) = loadPollList (intervalNow s) s.mc.settings.nodeAddress new s.iu) :
    answerPollList (pollListFields count entries) s = carried (settle deliveries { s with iu := iu }) := by
  refine (if_pos (by rw [length_flatMap_pair]; omega)).trans ?_
  rw [pairs_flatMap, hf]
  refine (if_neg hb).trans ?_
  rw [← hl]

end Checks

/-! ### The records rebuilt (R3) -/

section Records
variable {nodes : List NodeRecord} {new : List PollEntry} {e : PollEntry} {a : Nat}

theorem findNode_address {r : NodeRecord} (h : findNode a nodes = some r) : r.address = a := by
  induction nodes with
  | nil => cases h
  | cons x rest ih =>
    unfold findNode at h
    split at h
    next hx => exact Option.some.inj h ▸ hx
    · exact ih h

theorem findNode_none_iff : findNode a nodes = none ↔ ∀ r ∈ nodes, r.address ≠ a := by
  induction nodes with
  | nil => simp [findNode]
  | cons x rest ih =>
    unfold findNode
    split
    next hx => simp [hx]
    next hx => simp [hx, ih]

@[simp] theorem rebuildNode_address (nodes : List NodeRecord) (e : PollEntry) : (rebuildNode nodes e).address = e.address := by
  unfold rebuildNode
  split
  next r hr => exact findNode_address (r := r) hr
  · rfl

theorem mem_of_mem_namedAddresses (h : e ∈ namedAddresses new) : e ∈ new := by
  induction new with
  | nil => exact h
  | cons x rest ih =>
    obtain rfl | h := List.mem_cons.mp h
    · exact List.mem_cons_self
    · exact List.mem_cons_of_mem _ (ih (List.mem_of_mem_filter h))

/-- Every address of the list is named. -/
theorem exists_namedAddresses (h : e ∈ new) : ∃ x ∈ namedAddresses new, x.address = e.address := by
  induction new with
  | nil => cases h
  | cons y rest ih =>
    by_cases hy : y.address = e.address
    · exact ⟨y, List.mem_cons_self, hy⟩
    · obtain rfl | h := List.mem_cons.mp h
      · exact absurd rfl hy
      · obtain ⟨x, hx, hxe⟩ := ih h
        refine ⟨x, List.mem_cons_of_mem _ (List.mem_filter.mpr ⟨hx, ?_⟩), hxe⟩
        simpa [hxe] using Ne.symm hy

theorem named_any_iff : (∃ x ∈ namedAddresses new, x.address = a) ↔ ∃ x ∈ new, x.address = a := by
  constructor
  · rintro ⟨x, hx, rfl⟩
    exact ⟨x, mem_of_mem_namedAddresses hx, rfl⟩
  · rintro ⟨x, hx, rfl⟩
    exact exists_namedAddresses hx

/-- Where no address has two forms, every entry of the list is named itself. -/
theorem mem_namedAddresses (hforms : ∀ x ∈ new, x.address = e.address → x.form = e.form) (h : e ∈ new) :
    e ∈ namedAddresses new := by
  obtain ⟨⟨address, form⟩, hx, hxe⟩ := exists_namedAddresses h
  obtain rfl : form = e.form := hforms _ (mem_of_mem_namedAddresses hx) hxe
  obtain rfl : address = e.address := hxe
  exact hx

/-- The record of an address is the one rebuilt for its entry. -/
theorem findNode_rebuilt {named : List PollEntry} (h : e ∈ named) (hone : ∀ x ∈ named, x.address = e.address → x = e) :
    findNode e.address (named.map (rebuildNode nodes)) = some (rebuildNode nodes e) := by
  induction named with
  | nil => cases h
  | cons x rest ih =>
    rw [List.map_cons, findNode, rebuildNode_address]
    split
    next hx => rw [hone x List.mem_cons_self hx]
    next hx =>
      obtain rfl | h := List.mem_cons.mp h
      · exact absurd rfl hx
      · exact ih h fun y hy => hone y (List.mem_cons_of_mem _ hy)

theorem findNode_unnamed {named : List PollEntry} (h : ∀ x ∈ named, x.address ≠ a) :
    findNode a (named.map (rebuildNode nodes)) = none := by
  refine findNode_none_iff.mpr fun r hr => ?_
  obtain ⟨x, hx, rfl⟩ := List.mem_map.mp hr
  rw [rebuildNode_address]
  exact h x hx

end Records

/-! ### The new cycle (R5) -/

section Cycle
variable {iu : Intake} {interval : Option Nat}

/-- What the use of the free line keeps of the Intake Unit. -/
structure LineKept (before iu : Intake) : Prop where
  pollList : iu.pollList = before.pollList
  nodes : iu.nodes = before.nodes
  live : iu.live = before.live
  polarity : iu.polarity = before.polarity
  badWindows : iu.badWindows = before.badWindows
  timeBase : iu.timeBase = before.timeBase
  down : iu.down = before.down

theorem LineKept.refl (iu : Intake) : LineKept iu iu := ⟨rfl, rfl, rfl, rfl, rfl, rfl, rfl⟩

theorem LineKept.trans {a b c : Intake} (hab : LineKept a b) (hbc : LineKept b c) : LineKept a c :=
  ⟨hbc.pollList.trans hab.pollList, hbc.nodes.trans hab.nodes, hbc.live.trans hab.live, hbc.polarity.trans hab.polarity,
    hbc.badWindows.trans hab.badWindows, hbc.timeBase.trans hab.timeBase, hbc.down.trans hab.down⟩

theorem startCycle_kept (ms : Nat) : LineKept iu (startCycle ms iu) := by
  cases hlist : iu.pollList with
  | nil =>
    rw [startCycle_nil ms iu hlist]
    exact ⟨rfl, rfl, rfl, rfl, rfl, rfl, rfl⟩
  | cons e rest =>
    rw [startCycle_cons ms iu e rest hlist]
    exact ⟨rfl, rfl, rfl, rfl, rfl, rfl, rfl⟩

theorem startMessage_kept : LineKept iu (startMessage iu) := by
  cases hdown : iu.down with
  | nil =>
    rw [startMessage_nil iu hdown]
    exact .refl iu
  | cons m rest =>
    rw [startMessage_cons iu m rest hdown]
    exact ⟨rfl, rfl, rfl, rfl, rfl, rfl, rfl⟩

theorem useFreeLine_kept : LineKept iu (useFreeLine interval iu) := by
  by_cases hphase : iu.phase = .idle
  · cases hdue : iu.startDue with
    | false =>
      rw [useFreeLine_free interval iu hphase hdue]
      exact startMessage_kept
    | true =>
      cases interval with
      | none =>
        rw [useFreeLine_owed_none iu hphase hdue]
        exact .refl iu
      | some ms =>
        cases hlist : iu.pollList with
        | nil =>
          rw [useFreeLine_owed_nil ms iu hphase hdue hlist]
          exact (startCycle_kept ms).trans startMessage_kept
        | cons e rest =>
          rw [useFreeLine_owed_cons ms iu e rest hphase hdue hlist]
          exact startCycle_kept ms
  · rw [useFreeLine_busy interval iu hphase]
    exact .refl iu

variable {unitNode : Nat} {new : List PollEntry}

/-- The Intake Unit with another poll list and other records. -/
def withPollList (new : List PollEntry) (iu : Intake) : Intake :=
  { iu with pollList := new, nodes := (namedAddresses new).map (rebuildNode iu.nodes) }

/-- A Node Message and the wait after it go on; the new cycle is owed where cycles run (log 18). -/
theorem loadPollList_duringMessage {left : Nat} (h : iu.phase = .message left ∨ iu.phase = .messageWait left) :
    (loadPollList interval unitNode new iu).1 = { withPollList new iu with startDue := interval.isSome } := by
  have hphase : abandonCycle iu.phase = iu.phase := by obtain h | h := h <;> rw [h] <;> rfl
  have hbusy : iu.phase ≠ .idle := by obtain h | h := h <;> simp [h]
  simp only [loadPollList, hphase, if_neg hbusy]
  exact useFreeLine_busy _ _ hbusy

/-- Any other phase is abandoned, and the line is used as R5 says. -/
theorem loadPollList_abandons (hm : ∀ left, iu.phase ≠ .message left) (hw : ∀ left, iu.phase ≠ .messageWait left) :
    (loadPollList interval unitNode new iu).1 = useFreeLine interval
      { withPollList new iu with phase := .idle, sending := [], onWire := [], startDue := interval.isSome } := by
  have hphase : abandonCycle iu.phase = .idle := by
    unfold abandonCycle
    split
    next left h => exact absurd h (hm left)
    next left h => exact absurd h (hw left)
    · rfl
  simp only [loadPollList, hphase, if_true]
  rfl

theorem loadPollList_kept : LineKept (withPollList new iu) (loadPollList interval unitNode new iu).1 := by
  unfold loadPollList
  dsimp only
  refine .trans ?_ useFreeLine_kept
  split <;> exact ⟨rfl, rfl, rfl, rfl, rfl, rfl, rfl⟩

end Cycle

/-! ### What is delivered (R3, R4) -/

section Deliveries
variable {iu : Intake} {interval : Option Nat} {unitNode : Nat} {new : List PollEntry}

/-- The addresses whose records a new poll list removes. -/
def removedAddresses (nodes : List NodeRecord) (new : List PollEntry) : List Nat :=
  (nodes.filter fun r => (namedAddresses new).all fun e => e.address != r.address).map NodeRecord.address

/-- The addresses for which it makes fresh records. -/
def createdAddresses (nodes : List NodeRecord) (new : List PollEntry) : List Nat :=
  ((namedAddresses new).filter fun e => (findNode e.address nodes).isNone).map PollEntry.address

theorem mem_removedAddresses {nodes : List NodeRecord} {a : Nat} :
    a ∈ removedAddresses nodes new ↔ (∃ r ∈ nodes, r.address = a) ∧ ∀ e ∈ new, e.address ≠ a := by
  have hnamed : (∀ e ∈ namedAddresses new, e.address ≠ a) ↔ ∀ e ∈ new, e.address ≠ a := by
    simpa using not_congr (named_any_iff (new := new) (a := a))
  rw [← hnamed]
  simp only [removedAddresses, List.mem_map, List.mem_filter, List.all_eq_true, bne_iff_ne]
  constructor
  · rintro ⟨r, ⟨hr, hno⟩, rfl⟩
    exact ⟨⟨r, hr, rfl⟩, hno⟩
  · rintro ⟨⟨r, hr, rfl⟩, hno⟩
    exact ⟨r, ⟨hr, hno⟩, rfl⟩

theorem mem_createdAddresses {nodes : List NodeRecord} {a : Nat} :
    a ∈ createdAddresses nodes new ↔ (∃ e ∈ new, e.address = a) ∧ findNode a nodes = none := by
  rw [← named_any_iff]
  simp only [createdAddresses, List.mem_map, List.mem_filter, Option.isNone_iff_eq_none]
  constructor
  · rintro ⟨e, ⟨he, hnone⟩, rfl⟩
    exact ⟨⟨e, he, rfl⟩, hnone⟩
  · rintro ⟨⟨e, he, rfl⟩, hnone⟩
    exact ⟨e, ⟨he, hnone⟩, rfl⟩

/-- What a state of an address delivers: to the zones, and for the unit node to its consumers too. -/
def nodeReport (unitNode : Nat) (state : NodeState) (a : Nat) : List Signal :=
  [.nodeState a state] ++ (if a = unitNode then [.unitState state] else [])

theorem loadPollList_deliveries :
    (loadPollList interval unitNode new iu).2 = (removedAddresses iu.nodes new).flatMap (nodeReport unitNode .lost)
      ++ (createdAddresses iu.nodes new).flatMap (nodeReport unitNode .unknown) := rfl

theorem nodeState_mem_reports {state state' : NodeState} {a : Nat} {addresses : List Nat} :
    .nodeState a state ∈ addresses.flatMap (nodeReport unitNode state') ↔ a ∈ addresses ∧ state = state' := by
  simp only [List.mem_flatMap, nodeReport, List.mem_append, List.mem_singleton, Signal.nodeState.injEq]
  constructor
  · rintro ⟨b, hb, ⟨rfl, rfl⟩ | hx⟩
    · exact ⟨hb, rfl⟩
    · split at hx <;> simp at hx
  · rintro ⟨ha, rfl⟩
    exact ⟨a, ha, .inl ⟨rfl, rfl⟩⟩

theorem unitState_mem_reports {state state' : NodeState} {addresses : List Nat} :
    .unitState state ∈ addresses.flatMap (nodeReport unitNode state') ↔ unitNode ∈ addresses ∧ state = state' := by
  simp only [List.mem_flatMap, nodeReport, List.mem_append, List.mem_singleton]
  constructor
  · rintro ⟨b, hb, hx | hx⟩
    · cases hx
    · split at hx
      next hbu =>
        simp only [List.mem_singleton, Signal.unitState.injEq] at hx
        exact ⟨hbu ▸ hb, hx⟩
      · simp at hx
  · rintro ⟨ha, rfl⟩
    exact ⟨unitNode, ha, .inr (by simp)⟩

end Deliveries


section NewRecords
variable {interval : Option Nat} {unitNode : Nat} {new : List PollEntry} {before : Intake}

/-- The record of an entry still named keeps what it held, under the form now given; a new one is fresh (R3). -/
theorem loadPollList_record {e : PollEntry} (he : e ∈ new) (hgood : ¬ pollListBad new = true) :
    findNode e.address (loadPollList interval unitNode new before).1.nodes = some (match findNode e.address before.nodes with
      | some r => { r with form := e.form }
      | none => NodeRecord.fresh e.address e.form) := by
  have hforms : ∀ x ∈ new, ∀ y ∈ new, y.address = x.address → y.form = x.form := by
    intro x hx y hy hxy
    by_contra hne
    exact hgood (pollListBad_iff.mpr (.inr (.inr (.inr ⟨x, hx, y, hy, hxy, hne⟩))))
  have hone : ∀ x ∈ namedAddresses new, x.address = e.address → x = e := by
    rintro ⟨address, form⟩ hx rfl
    obtain rfl : form = e.form := hforms e he _ (mem_of_mem_namedAddresses hx) rfl
    rfl
  rw [loadPollList_kept.nodes]
  refine (findNode_rebuilt (mem_namedAddresses (hforms e he) he) hone).trans ?_
  unfold rebuildNode
  cases findNode e.address before.nodes <;> rfl

theorem loadPollList_unnamed {a : Nat} (h : ∀ e ∈ new, e.address ≠ a) :
    findNode a (loadPollList interval unitNode new before).1.nodes = none := by
  rw [loadPollList_kept.nodes]
  exact findNode_unnamed fun x hx => h x (mem_of_mem_namedAddresses hx)

end NewRecords

/-- Settles O43: the checks of R3, the records rebuilt, the cycle by the line's phase, and the four deliveries. -/
theorem loadPollList_holds : Obligations.LoadPollList := by
  unfold Obligations.LoadPollList
  intro tag count entries s new formsGood bad iu deliveries hr hforms haddresses hbad hload
  have hbad : bad ↔ pollListBad new = true := hbad.trans pollListBad_iff.symm
  have hiu : iu = (loadPollList (intervalNow s) s.mc.settings.nodeAddress new s.iu).1 := congrArg Prod.fst hload
  have hdel : deliveries = (loadPollList (intervalNow s) s.mc.settings.nodeAddress new s.iu).2 := congrArg Prod.snd hload
  have hkept : LineKept (withPollList new s.iu) iu := hiu ▸ loadPollList_kept
  have answered (a : Answer) (ha : answerPollList (pollListFields count entries) s = a) :
      exec (.loadPollList tag count entries) s = .next (replyWith tag 0x04#8 a.status a.data a.state) :=
    taken tag 0x04#8 (pollListFields count entries) .loadPollList hr ha rfl rfl
  have hrebuilt : { s.iu with pollList := new, nodes := iu.nodes } = withPollList new s.iu := by rw [hkept.nodes]; rfl
  refine ⟨fun h => answered _ (answerPollList_badLength count s h), fun h hunknown => ?unknown, fun h hf hb => ?bad,
    fun h hf hb => ?good, ?kept, fun hm hw ms e rest hms hnew => ?first, ?cycle, fun a => ?lost, fun a => ?created,
    ?unitLost, ?unitCreated⟩
  case unknown => exact answered _ (answerPollList_unknownForm count s h (entriesOf_unknown hunknown))
  case bad =>
    exact answered _ (answerPollList_bad count s h (entriesOf_spelled haddresses (hforms.mp hf)) (hbad.mp hb))
  case good =>
    exact answered _ (answerPollList_loaded count s h (entriesOf_spelled haddresses (hforms.mp hf)) (mt hbad.mpr hb) hload)
  case kept =>
    refine ⟨hkept.pollList, fun e he hb => ?_, fun a ha => ?_, hkept.live, hkept.polarity, hkept.badWindows,
      hkept.timeBase, hkept.down⟩
    · rw [hiu]
      exact loadPollList_record he (mt hbad.mpr hb)
    · rw [hiu]
      exact loadPollList_unnamed ha
  case first =>
    rw [hiu, loadPollList_abandons hm hw, hms, useFreeLine_owed_cons ms _ e rest rfl rfl hnew,
      startCycle_cons ms _ e rest hnew]
    exact ⟨rfl, rfl, rfl, rfl, rfl⟩
  case cycle =>
    rintro held halted started messageSent rfl rfl rfl rfl
    rw [hrebuilt]
    refine ⟨fun ⟨left, h⟩ => ?_, fun hm hw => ⟨fun ms e rest hms hnew => ?_, ?_, fun hnone => ?_⟩⟩
    · rw [hiu, loadPollList_duringMessage h]
    · rw [hiu, loadPollList_abandons hm hw, hms, useFreeLine_owed_cons ms _ e rest rfl rfl hnew,
        startCycle_cons ms _ e rest hnew]
      rfl
    · rintro ms ended hms hnew rfl
      rw [hiu, loadPollList_abandons hm hw, hms, useFreeLine_owed_nil ms _ rfl rfl hnew, startCycle_nil ms _ hnew]
      refine ⟨fun hdown => ?_, fun m rest hdown => ?_⟩
      · rw [startMessage_nil _ (by exact hdown)]
        rfl
      · rw [startMessage_cons _ m rest (by exact hdown)]
        rfl
    · rw [hiu, loadPollList_abandons hm hw, hnone, useFreeLine_free _ _ rfl rfl]
      refine ⟨fun hdown => startMessage_nil _ hdown, fun m rest hdown => ?_⟩
      rw [startMessage_cons _ m rest (by exact hdown)]
      rfl
  case lost | created =>
    rw [hdel, loadPollList_deliveries, List.mem_append, nodeState_mem_reports, nodeState_mem_reports]
    simp [mem_removedAddresses, mem_createdAddresses]
  case unitLost | unitCreated =>
    rw [hdel, loadPollList_deliveries, List.mem_append, unitState_mem_reports, unitState_mem_reports]
    simp [mem_removedAddresses, mem_createdAddresses]

end Sys2Proof.Machine


/-! Forward To Node, Inject Sample and Zone Line Reset (R20 to R24). -/
namespace Sys2Proof.Machine

/-! ### Forward To Node (R20) -/

section Forward
variable {address n : Byte} (data : List Byte) (s : State)

theorem answerForward_badIndex (h : address.toNat = 0 ∨ 31 < address.toNat) :
    answerForward (address :: n :: data) s = refuse .badIndex s := if_pos h

variable {data} (ha : ¬ (address.toNat = 0 ∨ 31 < address.toNat))
include ha

theorem answerForward_badLength (h : 18 < n.toNat ∨ n.toNat ≠ data.length) :
    answerForward (address :: n :: data) s = refuse .badLength s := (if_neg ha).trans (if_pos h)

variable {s} (hn : ¬ (18 < n.toNat ∨ n.toNat ≠ data.length))
include hn

theorem answerForward_full (h : 4 ≤ s.iu.down.length) :
    answerForward (address :: n :: data) s = refuse .full s := (if_neg ha).trans ((if_neg hn).trans (if_pos h))

theorem answerForward_taken (h : s.iu.down.length < 4) :
    answerForward (address :: n :: data) s = carried { s with iu := forwardMessage ⟨address, data⟩ s.iu } :=
  (if_neg ha).trans ((if_neg hn).trans (if_neg (by omega)))

end Forward

/-- On a line in use the message waits. -/
theorem forwardMessage_waits {iu : Intake} {x : NodeMessage} (h : iu.phase ≠ .idle ∨ iu.startDue = true) :
    forwardMessage x iu = { iu with down := iu.down ++ [x] } :=
  messageMayStart_waits (h.imp id .inl)

/-- On a line idle between cycles the message at the front is sent at once (R21). -/
theorem forwardMessage_sends {iu : Intake} {x m : NodeMessage} {rest : List NodeMessage} (hidle : iu.phase = .idle)
    (hdue : iu.startDue = false) (hdown : iu.down ++ [x] = m :: rest) :
    forwardMessage x iu = { iu with
      down := iu.down ++ [x], phase := .message (zoneLineTime (messageFrame m.address m.data).length)
      sending := messageFrame m.address m.data, onWire := [corrected iu.polarity 0x74#8] } :=
  messageMayStart_free hidle hdue hdown

/-! ### Inject Sample (R22, R23) -/

section Inject
variable {address : Byte} {f : SampleFields} {s : State}

/-- The fields of Inject Sample after its number (Table 11-5). -/
def sampleOctets (address : Byte) (f : SampleFields) : List Byte :=
  [address] ++ octets16 f.temperature ++ octets16 f.rh ++ octets16 f.pm25 ++ octets16 f.pm10 ++ octets16 f.pressure
    ++ octets16 f.coil ++ [f.status]

/-- The reading that these fields give (R11). -/
def sampleReading (f : SampleFields) : Reading :=
  { temperature := temperatureField f.temperature, rh := unsignedField f.rh, pm25 := unsignedField f.pm25
    pm10 := unsignedField f.pm10, pressure := unsignedField f.pressure, coil := temperatureField f.coil
    status := some f.status }

theorem sampleOctets_address : byteAt 0 (sampleOctets address f) = address := rfl

theorem sampleOctets_fields :
    halfAt 1 (sampleOctets address f) = f.temperature ∧ halfAt 3 (sampleOctets address f) = f.rh
    ∧ halfAt 5 (sampleOctets address f) = f.pm25 ∧ halfAt 7 (sampleOctets address f) = f.pm10
    ∧ halfAt 9 (sampleOctets address f) = f.pressure ∧ halfAt 11 (sampleOctets address f) = f.coil :=
  ⟨half_hi_lo _, half_hi_lo _, half_hi_lo _, half_hi_lo _, half_hi_lo _, half_hi_lo _⟩

theorem answerInject_badMode (h : s.mc.mode ≠ .service ∨ s.mc.source ≠ .inject) :
    answerInject (sampleOctets address f) s = refuse .badMode s :=
  if_neg fun hboth => h.elim (· hboth.1) (· hboth.2)

variable (hm : s.mc.mode = .service) (hs : s.mc.source = .inject)
include hm hs

theorem answerInject_badIndex (h : findNode address.toNat s.iu.nodes = none) :
    answerInject (sampleOctets address f) s = refuse .badIndex s := by
  unfold answerInject
  rw [if_pos ⟨hm, hs⟩]
  change (match findNode address.toNat s.iu.nodes with | none => _ | some _ => _) = _
  rw [h]

theorem answerInject_taken {r : NodeRecord} (h : findNode address.toNat s.iu.nodes = some r) :
    answerInject (sampleOctets address f) s = carried (settle
      ((if r.state = .lost then [.notice .nodeBack (some address)] else [])
        ++ [.reading address.toNat s.iu.timeBase r.lastSequence (sampleReading f)])
      { s with iu := { s.iu with
        nodes := updateNode address.toNat (acceptInto s.iu.timeBase none (sampleReading f)) s.iu.nodes
        live := { s.iu.live with accepted := s.iu.live.accepted + 1#16 } } }) := by
  unfold answerInject
  rw [if_pos ⟨hm, hs⟩]
  simp only [sampleOctets_address, sampleOctets_fields, h, injectReading, octet_toNat]
  rfl

end Inject

/-! ### Zone Line Reset (R24) -/

section Reset
variable {iu : Intake} {setting : PolaritySetting}

/-- What Zone Line Reset sets the Intake Unit back to, with the line free (R24). -/
def lineAfresh (due : Bool) (setting : PolaritySetting) (iu : Intake) : Intake :=
  { iu with
    nodes := iu.nodes.map fun r => NodeRecord.fresh r.address r.form
    live := IntakeCounters.zero, snapshot := IntakeCounters.zero, cycleNumber := 0#16, badWindows := 0
    polarity := if setting = .inverted then .inverted else .normal
    down := [], phase := .idle, sending := [], onWire := [], startDue := due }

theorem resetLine_eq (interval : Option Nat) :
    resetLine interval setting iu = useFreeLine interval (lineAfresh interval.isSome setting iu) := by
  unfold resetLine lineAfresh
  cases setting <;> rfl

theorem resetLine_stays : resetLine none setting iu = lineAfresh false setting iu := by
  rw [resetLine_eq, useFreeLine_free _ _ rfl rfl]
  exact startMessage_nil _ rfl

theorem resetLine_polls (ms : Nat) {e : PollEntry} {rest : List PollEntry} (h : iu.pollList = e :: rest) :
    resetLine (some ms) setting iu = { lineAfresh false setting iu with
      lastStart := some iu.timeBase, nextStart := some (iu.timeBase + BitVec.ofNat 32 ms)
      phase := .poll 0 (zoneLineTime 4), sending := pollFrame e.address
      onWire := [corrected (lineAfresh false setting iu).polarity 0x70#8] } := by
  have hline : (lineAfresh true setting iu).pollList = e :: rest := h
  rw [resetLine_eq, Option.isSome_some, useFreeLine_owed_cons ms _ e rest rfl rfl hline, startCycle_cons ms _ e rest hline]
  rfl

theorem resetLine_empty (ms : Nat) (h : iu.pollList = []) :
    resetLine (some ms) setting iu = { lineAfresh false setting iu with
      lastStart := some iu.timeBase, nextStart := some (iu.timeBase + BitVec.ofNat 32 ms), cycleNumber := 1#16 } := by
  have hline : (lineAfresh true setting iu).pollList = [] := h
  rw [resetLine_eq, Option.isSome_some, useFreeLine_owed_nil ms _ rfl rfl hline, startCycle_nil ms _ hline]
  exact startMessage_nil _ rfl

end Reset

/-- Settles O57: the three Requests by their checks, then their effects on the Intake Unit. -/
theorem lineRequests : Obligations.LineRequests := by
  unfold Obligations.LineRequests
  refine fun tag s hr => ⟨fun address n data => ?forward, fun address f => ?inject, ?reset⟩
  case forward =>
    have answered (a : Answer) (ha : answerForward (address :: n :: data) s = a) :
        exec (.forwardToNode tag address n data) s = .next (replyWith tag 0x12#8 a.status a.data a.state) :=
      taken tag 0x12#8 (address :: n :: data) .forwardToNode hr ha rfl rfl
    refine ⟨fun h => answered _ (answerForward_badIndex data s h),
      fun hlow hhigh h => answered _ (answerForward_badLength s (by omega) h),
      fun hlow hhigh hn hlen h => answered _ (answerForward_full (by omega) (by omega) h),
      fun hlow hhigh hn hlen h => ?_⟩
    have sent := answered _ (answerForward_taken (by omega) (by omega) h)
    refine ⟨fun hbusy => ?_, fun hidle hdue hdown => ?_, fun m rest hidle hdue hdown => ?_⟩
    · rw [forwardMessage_waits hbusy] at sent
      exact sent
    · rw [forwardMessage_sends (m := ⟨address, data⟩) (rest := []) hidle hdue (by rw [hdown]; rfl), hdown] at sent
      exact sent
    · rw [forwardMessage_sends (m := m) (rest := rest ++ [⟨address, data⟩]) hidle hdue (by rw [hdown]; rfl)] at sent
      exact sent
  case inject =>
    have answered (a : Answer) (ha : answerInject (sampleOctets address f) s = a) :
        exec (.injectSample tag address f) s = .next (replyWith tag 0x18#8 a.status a.data a.state) :=
      taken tag 0x18#8 (sampleOctets address f) .injectSample hr ha rfl rfl
    refine ⟨fun h => answered _ (answerInject_badMode h), fun hm hs h => answered _ (answerInject_badIndex hm hs h), ?_⟩
    rintro r fields back hm hs h rfl rfl
    have hkeeps (x : NodeRecord) : (acceptInto s.iu.timeBase none (sampleReading f) x).address = x.address := rfl
    refine ⟨_, answered _ (answerInject_taken hm hs h), ?_, fun a ha => findNode_updateNode_other hkeeps ha _⟩
    rw [findNode_updateNode_same hkeeps, h]
    rfl
  case reset =>
    rintro iu rfl
    have answered : exec (.zoneLineReset tag) s = .next (replyWith tag 0x1B#8 .done []
        (settle [.lineReset] { s with iu := resetLine (intervalNow s) s.mc.settings.polarity s.iu })) :=
      taken tag 0x1B#8 [] .zoneLineReset hr rfl rfl rfl
    refine ⟨fun h => ?_, fun ms e rest h hlist => ?_, fun ms h hlist => ?_, fun z => rfl⟩
    · rw [answered, h, resetLine_stays]
      rfl
    · rw [answered, h, resetLine_polls ms hlist]
      rfl
    · rw [answered, h, resetLine_empty ms hlist]
      rfl

end Sys2Proof.Machine


/-! The panel link's receiver and the request queue (R166 to R168). -/
namespace Sys2Proof.Machine

/-! ### The receiver (R166) -/

section Receiver
variable {s : State} {o : Byte} {octets : List Byte} {left : Nat}

/-- The state with the receiver set. -/
def withReceiver (r : Receiver) (s : State) : State := { s with pl := { s.pl with receiver := r } }

theorem withReceiver_same {r : Receiver} (h : s.pl.receiver = r) : withReceiver r s = s := by
  unfold withReceiver
  rw [← h]

theorem panelGapOver_assembling (h : s.pl.receiver = .assembling octets left) :
    panelGapOver s.pl = { s.pl with receiver := .hunting, checkFail := s.pl.checkFail + 1#16 } := by
  simp only [panelGapOver, h]

theorem panelGapOver_hunting (h : s.pl.receiver = .hunting) : panelGapOver s.pl = s.pl := by
  simp only [panelGapOver, h]

theorem panelOctet_hunting (h : s.pl.receiver = .hunting) : panelOctet o s = takeOctet o s := by
  unfold panelOctet heardInTime
  simp only [h]

/-- With its gap run out a frame is discarded, and the octet is hunted (R166). -/
theorem panelOctet_late (h : s.pl.receiver = .assembling octets 0) :
    panelOctet o s = takeOctet o
      { s with pl := { s.pl with receiver := .hunting, checkFail := s.pl.checkFail + 1#16 } } := by
  unfold panelOctet heardInTime
  simp only [h, panelGapOver_assembling h]

theorem panelOctet_inTime (h : s.pl.receiver = .assembling octets left) (hleft : 0 < left) :
    panelOctet o s = takeOctet o s := by
  unfold panelOctet heardInTime
  obtain ⟨n, rfl⟩ := Nat.exists_eq_succ_of_ne_zero (Nat.ne_of_gt hleft)
  simp only [h]

theorem takeOctet_lead (h : s.pl.receiver = .hunting) :
    takeOctet 0x3C#8 s = withReceiver (.assembling [0x3C#8] 11) s := by
  simp only [takeOctet, h]
  rfl

theorem takeOctet_noise (h : s.pl.receiver = .hunting) (ho : o ≠ 0x3C#8) : takeOctet o s = s := by
  simp only [takeOctet, h, if_neg ho]

theorem takeOctet_tooLong (h : s.pl.receiver = .assembling octets left) (hlong : 56 < payloadLength (octets ++ [o])) :
    takeOctet o s = { s with pl := { s.pl with receiver := .hunting, checkFail := s.pl.checkFail + 1#16 } } := by
  simp only [takeOctet, h, if_pos hlong]

theorem takeOctet_joins (h : s.pl.receiver = .assembling octets left) (hfits : payloadLength (octets ++ [o]) ≤ 56)
    (hshort : octets.length = 0 ∨ octets.length + 1 < 6 + payloadLength (octets ++ [o])) :
    takeOctet o s = withReceiver (.assembling (octets ++ [o]) 11) s := by
  simp only [takeOctet, h, if_neg (Nat.not_lt.mpr hfits)]
  rw [if_neg (by rw [List.length_append, List.length_singleton]; omega)]
  rfl

theorem takeOctet_completes (h : s.pl.receiver = .assembling octets left) (hfits : payloadLength (octets ++ [o]) ≤ 56)
    (hwhole : octets.length + 1 = 6 + payloadLength (octets ++ [o])) :
    takeOctet o s = takeFrame (octets ++ [o]) s := by
  simp only [takeOctet, h, if_neg (Nat.not_lt.mpr hfits)]
  rw [if_pos (by rw [List.length_append, List.length_singleton]; omega)]

theorem checkHolds_concat {body : List Byte} {c1 c0 : Byte} :
    checkHolds (body ++ [c1, c0]) = true ↔ octets16 (checkOf body) = [c1, c0] := by
  unfold checkHolds
  have hlen : (body ++ [c1, c0]).length - 2 = body.length := by simp
  rw [hlen, List.drop_left, List.take_left, beq_iff_eq]
  exact eq_comm

variable {n kind tag c1 c0 : Byte} {payload : List Byte}

/-- The body of a frame on the panel link (Table 11-4). -/
def linkBody (n kind tag : Byte) (payload : List Byte) : List Byte := 0x3C#8 :: n :: kind :: tag :: payload

theorem takeFrame_wrongCheck (hc : octets16 (checkOf (linkBody n kind tag payload)) ≠ [c1, c0]) :
    takeFrame (linkBody n kind tag payload ++ [c1, c0]) s =
      { s with pl := { s.pl with receiver := .hunting, checkFail := s.pl.checkFail + 1#16 } } :=
  if_neg (mt checkHolds_concat.mp hc)

variable (hc : octets16 (checkOf (linkBody n kind tag payload)) = [c1, c0])
include hc

theorem takeFrame_otherKind (hk : kind ≠ 0x01#8) :
    takeFrame (linkBody n kind tag payload ++ [c1, c0]) s =
      { s with pl := { s.pl with receiver := .hunting, kindFail := s.pl.kindFail + 1#16 } } :=
  (if_pos (checkHolds_concat.mpr hc)).trans (if_neg hk)

theorem takeFrame_request (hk : kind = 0x01#8) (hn : payload.length = n.toNat) :
    takeFrame (linkBody n kind tag payload ++ [c1, c0]) s = receiveRequest tag payload (withReceiver .hunting s) := by
  have hpayload : ((linkBody n kind tag payload ++ [c1, c0]).drop 4).take
      (payloadLength (linkBody n kind tag payload ++ [c1, c0])) = payload := by
    change (payload ++ [c1, c0]).take n.toNat = payload
    rw [← hn, List.take_left]
  refine (if_pos (checkHolds_concat.mpr hc)).trans ((if_pos hk).trans ?_)
  rw [hpayload]
  rfl

end Receiver

/-! ### A whole frame, octet by octet (R166, Table 11-4) -/

section Frame
variable {s : State} {n kind tag c1 c0 : Byte} {payload : List Byte}

/-- Octets short of the frame's length join it one after another. -/
theorem heard_joins {octets more : List Byte} {left : Nat} (h : s.pl.receiver = .assembling (0x3C#8 :: n :: octets) left)
    (hleft : 0 < left) (hn : n.toNat ≤ 56) (hshort : octets.length + more.length + 2 < 6 + n.toNat) (hmore : more ≠ []) :
    more.foldl (fun u o => panelOctet o u) s = withReceiver (.assembling (0x3C#8 :: n :: octets ++ more) 11) s := by
  induction more generalizing octets left s with
  | nil => exact absurd rfl hmore
  | cons o more ih =>
    have hlen : octets.length + (more.length + 1) + 2 < 6 + n.toNat := hshort
    have hnext : (0x3C#8 :: n :: octets).length + 1 < 6 + payloadLength (0x3C#8 :: n :: octets ++ [o]) := by
      change octets.length + 2 + 1 < 6 + n.toNat
      omega
    have joined : panelOctet o s = withReceiver (.assembling (0x3C#8 :: n :: octets ++ [o]) 11) s :=
      (panelOctet_inTime h hleft).trans (takeOctet_joins h hn (.inr hnext))
    rw [List.foldl_cons, joined]
    cases more with
    | nil => rfl
    | cons x rest =>
      have hrest : (octets ++ [o]).length + (x :: rest).length + 2 < 6 + n.toNat := by
        rw [List.length_append, List.length_singleton]
        omega
      rw [ih (octets := octets ++ [o]) rfl (by decide) hrest (by simp)]
      simp [withReceiver]

/-- From a hunting receiver the octets of a Request frame do what the arrival of that Request does. -/
theorem heard_request (h : s.pl.receiver = .hunting) (hn : payload.length = n.toNat) (hfits : n.toNat ≤ 56)
    (hc : octets16 (checkOf (linkBody n 0x01#8 tag payload)) = [c1, c0]) :
    (linkBody n 0x01#8 tag payload ++ [c1, c0]).foldl (fun u o => panelOctet o u) s = receiveRequest tag payload s := by
  have hlead : panelOctet 0x3C#8 s = withReceiver (.assembling [0x3C#8] 11) s := (panelOctet_hunting h).trans (takeOctet_lead h)
  have hjoin : [0x3C#8].length + 1 < 6 + payloadLength ([0x3C#8] ++ [n]) := by
    change 2 < 6 + n.toNat
    omega
  have hlength : panelOctet n (withReceiver (.assembling [0x3C#8] 11) s) = withReceiver (.assembling [0x3C#8, n] 11) s :=
    (panelOctet_inTime rfl (by decide)).trans (takeOctet_joins (octets := [0x3C#8]) rfl hfits (.inr hjoin))
  have hbody := heard_joins (s := withReceiver (.assembling [0x3C#8, n] 11) s) (octets := [])
    (more := 0x01#8 :: tag :: payload ++ [c1]) rfl (by decide) hfits (by simp; omega) (by simp)
  have hframe : linkBody n 0x01#8 tag payload ++ [c1, c0] =
      [0x3C#8, n] ++ (0x01#8 :: tag :: payload ++ [c1]) ++ [c0] := by simp [linkBody]
  have hwhole : (0x3C#8 :: n :: [] ++ (0x01#8 :: tag :: payload ++ [c1])).length + 1 =
      6 + payloadLength (0x3C#8 :: n :: [] ++ (0x01#8 :: tag :: payload ++ [c1]) ++ [c0]) := by
    change (0x01#8 :: tag :: payload ++ [c1]).length + 2 + 1 = 6 + n.toNat
    simp
    omega
  have hstart : [0x3C#8, n].foldl (fun u o => panelOctet o u) s = withReceiver (.assembling [0x3C#8, n] 11) s := by
    rw [List.foldl_cons, hlead, List.foldl_cons, hlength, List.foldl_nil]
  rw [hframe, List.foldl_append, List.foldl_append, hstart, hbody, List.foldl_cons, List.foldl_nil,
    panelOctet_inTime rfl (by decide), takeOctet_completes rfl (by exact hfits) hwhole]
  exact (congrArg (takeFrame · _) hframe.symm).trans
    ((takeFrame_request hc rfl hn).trans (congrArg (receiveRequest tag payload) (withReceiver_same h)))

/-- A fold that asks each octet's command for its next state runs the receiver over the octets. -/
theorem foldl_octets {g : Option State → Byte → Option State} (hg : ∀ u o, g (some u) o = some (panelOctet o u))
    (frame : List Byte) (s : State) : frame.foldl g (some s) = some (frame.foldl (fun u o => panelOctet o u) s) := by
  induction frame generalizing s with
  | nil => rfl
  | cons o rest ih => rw [List.foldl_cons, hg, ih, List.foldl_cons]

end Frame

/-! ### The Request commands (log 5) -/

/-- Each Request command is the arrival of its Request. -/
theorem exec_request {c : Instr} {tag : Byte} {payload : List Byte} (ht : requestTag c = some tag)
    (hp : requestPayload c = some payload) (s : State) : exec c s = .next (receiveRequest tag payload s) := by
  cases c <;> cases ht <;> cases hp <;> rfl

/-- Settles O50: the receiver hunting, late, and in time by what the octet makes of the frame. -/
theorem panelOctets : Obligations.PanelOctets := by
  unfold Obligations.PanelOctets
  refine fun s o => ⟨?lead, fun h ho => ?noise, fun octets h => ⟨?lateLead, fun ho => ?lateNoise⟩,
    fun left h hleft => ⟨fun hlong => ?tooLong, fun hfits => ?length⟩,
    fun left n more h hleft hn => ⟨fun hshort => ?joins, fun kind tag payload c1 c0 hlen hmore => ?whole⟩,
    fun octets left h => ?gap, fun h => ?noGap⟩
  case lead =>
    rintro h rfl
    exact congrArg Host.Outcome.next ((panelOctet_hunting h).trans (takeOctet_lead h))
  case noise => exact congrArg Host.Outcome.next ((panelOctet_hunting h).trans (takeOctet_noise h ho))
  case lateLead =>
    rintro rfl
    exact congrArg Host.Outcome.next ((panelOctet_late h).trans (takeOctet_lead rfl))
  case lateNoise => exact congrArg Host.Outcome.next ((panelOctet_late h).trans (takeOctet_noise rfl ho))
  case tooLong => exact congrArg Host.Outcome.next ((panelOctet_inTime h hleft).trans (takeOctet_tooLong h hlong))
  case length =>
    exact congrArg Host.Outcome.next ((panelOctet_inTime h hleft).trans (takeOctet_joins h hfits (.inr (by simp; omega))))
  case joins =>
    have hshort' : (0x3C#8 :: n :: more).length + 1 < 6 + payloadLength (0x3C#8 :: n :: more ++ [o]) := by
      change more.length + 2 + 1 < 6 + n.toNat
      omega
    exact congrArg Host.Outcome.next ((panelOctet_inTime h hleft).trans (takeOctet_joins h hn (.inr hshort')))
  case whole =>
    have hframe : 0x3C#8 :: n :: more ++ [o] = linkBody n kind tag payload ++ [c1, c0] :=
      congrArg (fun l => 0x3C#8 :: n :: l) hmore
    have hwhole : (0x3C#8 :: n :: more).length + 1 = 6 + payloadLength (0x3C#8 :: n :: more ++ [o]) := by
      have hl := congrArg List.length hmore
      simp only [List.length_append, List.length_cons, List.length_nil, List.cons_append] at hl
      change more.length + 2 + 1 = 6 + n.toNat
      omega
    have taken : panelOctet o s = takeFrame (linkBody n kind tag payload ++ [c1, c0]) s :=
      hframe ▸ (panelOctet_inTime h hleft).trans (takeOctet_completes h hn hwhole)
    exact ⟨fun hc => congrArg Host.Outcome.next (taken.trans (takeFrame_wrongCheck hc)),
      fun hc hk => congrArg Host.Outcome.next (taken.trans (takeFrame_otherKind hc hk)),
      fun hc hk => congrArg Host.Outcome.next (taken.trans (takeFrame_request hc hk hlen))⟩
  case gap => exact congrArg (fun pl => Host.Outcome.next { s with pl := pl }) (panelGapOver_assembling h)
  case noGap => exact congrArg (fun pl => Host.Outcome.next { s with pl := pl }) (panelGapOver_hunting h)

/-- Settles O51: the frame octet by octet, the commands as arrivals, and the payload of each. -/
theorem requestFrames : Obligations.RequestFrames := by
  unfold Obligations.RequestFrames
  refine ⟨?octets, fun c tag payload s ht hp => exec_request ht hp s, ?payloads⟩
  case octets =>
    rintro tag payload frame s h hlen rfl
    have hn : payload.length = (octet payload.length).toNat := (toNat_octet (by omega)).symm
    refine (foldl_octets (fun u o => rfl) _ s).trans (congrArg some ?_)
    exact heard_request h hn (hn ▸ hlen) rfl
  case payloads =>
    intro tag is o2 o3 o4 his h2 h3 h4
    obtain rfl : o2 = octets16 := funext h2
    obtain rfl : o3 = octets24 := funext h3
    obtain rfl : o4 = octets32 := funext h4
    simp only [his]
    exact ⟨fun _ => ⟨rfl, rfl⟩, fun _ => ⟨rfl, rfl⟩, fun _ _ => ⟨rfl, rfl⟩, fun _ _ _ => ⟨rfl, rfl⟩,
      fun _ _ _ _ _ _ _ => ⟨rfl, rfl⟩, fun _ _ => ⟨rfl, rfl⟩, fun _ => ⟨rfl, rfl⟩, fun _ _ _ => ⟨rfl, rfl⟩,
      fun _ _ => ⟨rfl, rfl⟩, fun _ _ _ _ _ => ⟨rfl, rfl⟩, fun _ => ⟨rfl, rfl⟩, fun _ _ => ⟨rfl, rfl⟩,
      fun _ => ⟨rfl, rfl⟩, fun _ => ⟨rfl, rfl⟩, fun _ => ⟨rfl, rfl⟩, fun _ => ⟨rfl, rfl⟩, ⟨rfl, rfl⟩, ⟨rfl, rfl⟩,
      fun _ _ _ => ⟨rfl, rfl⟩, fun _ _ _ => ⟨rfl, rfl⟩, fun _ => ⟨⟨rfl, rfl⟩, ⟨rfl, rfl⟩⟩, ⟨rfl, rfl⟩, ⟨rfl, rfl⟩,
      fun _ => ⟨rfl, rfl⟩, fun _ => ⟨rfl, rfl⟩, ⟨rfl, rfl⟩, ⟨rfl, rfl⟩, ⟨rfl, rfl⟩, ⟨rfl, rfl⟩,
      fun _ _ => ⟨rfl, rfl⟩, fun _ _ => ⟨rfl, rfl⟩, fun _ _ => ⟨rfl, rfl⟩, ⟨rfl, rfl⟩, ⟨rfl, rfl⟩⟩

end Sys2Proof.Machine


/-! The request queue, Replies and the last error record (R167 to R169). -/
namespace Sys2Proof.Machine

/-! ### The request queue (R167, R168) -/

section Queue
variable {tag : Byte} {payload : List Byte} {s : State}

theorem canTake_false (h : 4 ≤ countFrames .reply s.pl.upward ∨ s.pl.restartPending = true) : canTake s.pl = false := by
  unfold canTake
  obtain h | h := h
  · rw [decide_eq_false (by omega), Bool.false_and]
  · rw [h, Bool.not_true, Bool.and_false]

theorem canTake_true (hroom : countFrames .reply s.pl.upward < 4) (hr : s.pl.restartPending = false) :
    canTake s.pl = true := by
  unfold canTake
  rw [decide_eq_true hroom, hr]
  rfl

/-- A Request that finds four waiting is dropped, counted and marked (R167). -/
theorem receiveRequest_full (hfull : s.pl.requests.length = 4) (h : canTake s.pl = false) :
    receiveRequest tag payload s =
      { s with pl := { s.pl with requestsDropped := s.pl.requestsDropped + 1#16, overrun := true } } := by
  rw [receiveRequest_dropped tag payload s (Nat.le_of_eq hfull.symm)]
  exact takeAll_blocked _ h

/-- A Request that finds room in the queue waits while none can be taken (R167, R168). -/
theorem receiveRequest_waits (hroom : s.pl.requests.length < 4) (h : canTake s.pl = false) :
    receiveRequest tag payload s = { s with pl := { s.pl with requests := s.pl.requests ++ [⟨tag, payload⟩] } } := by
  have hqueued : queueRequest tag payload s.pl = { s.pl with requests := s.pl.requests ++ [⟨tag, payload⟩] } := if_pos hroom
  rw [receiveRequest, hqueued]
  exact takeAll_blocked _ h

theorem linkReady_iff : linkReady s.pl = true ↔
    s.pl.requests = [] ∧ countFrames .reply s.pl.upward < 4 ∧ s.pl.restartPending = false := by
  simp [linkReady, canTake]

theorem requestOf_none {number : Byte} (h : number = 0#8 ∨ 0x1C < number.toNat) : requestOf number = none := by
  have hrange : number.toNat = 0 ∨ 28 < number.toNat := h.imp (congrArg BitVec.toNat) id
  unfold requestOf
  split
  case h_29 => rfl
  all_goals omega

theorem takeRequest_empty : takeRequest ⟨tag, []⟩ s = replyWith tag 0xFF#8 .unknown [] s := rfl

theorem takeRequest_unknown {number : Byte} {fields : List Byte} (h : requestOf number = none) :
    takeRequest ⟨tag, number :: fields⟩ s = replyWith tag number .unknown [] s := by
  simp only [takeRequest, answer, h]
  rfl

/-- The Request at the front is taken, and then the others that can be (R168). -/
theorem takeAll_front {r : Request} {rest : List Request} (hq : s.pl.requests = r :: rest) (h : canTake s.pl = true) :
    takeAll s = takeRequests rest.length (takeRequest r { s with pl := { s.pl with requests := rest } }) := by
  unfold takeAll
  rw [hq, List.length_cons, takeRequests]
  simp only [hq, h, if_true]

end Queue

/-- Settles O52: the queue by its room and the link's readiness, and the Requests that no owner takes. -/
theorem requestQueue : Obligations.RequestQueue := by
  unfold Obligations.RequestQueue
  intro tag payload s
  have arrives {c : Instr} (ht : requestTag c = some tag) (hp : requestPayload c = some payload) {t : State}
      (h : receiveRequest tag payload s = t) : exec c s = .next t := (exec_request ht hp s).trans (congrArg _ h)
  refine ⟨rfl, fun c ht hp => ⟨fun hq h => arrives ht hp (receiveRequest_full hq (canTake_false h)),
      fun hq h => arrives ht hp (receiveRequest_waits hq (canTake_false h)),
      fun h => arrives ht hp (receiveRequest_ready tag payload s h)⟩,
    fun hq h => arrives rfl rfl (receiveRequest_full hq (canTake_false h)),
    fun hq h => arrives rfl rfl (receiveRequest_waits hq (canTake_false h)), linkReady_iff, ?empty, ?answered,
    fun r rest hq hroom hr => takeAll_front hq (canTake_true hroom hr)⟩
  case empty =>
    rintro h rfl
    exact arrives rfl rfl ((receiveRequest_ready tag [] s h).trans takeRequest_empty)
  case answered =>
    rintro number fields h rfl
    refine ⟨fun hn => arrives rfl rfl ((receiveRequest_ready tag _ s h).trans (takeRequest_unknown (requestOf_none hn))),
      fun kind n hk hfixed hlen => ?_⟩
    have hwrong : lengthHolds kind (number :: fields) = false := by
      simp only [lengthHolds, hfixed, beq_eq_false_iff_ne]
      exact hlen
    exact arrives rfl rfl
      ((receiveRequest_ready tag _ s h).trans (takeRequest_badLength tag number fields kind s hk hwrong))

end Sys2Proof.Machine


/-! Notices and the transmitter (R171, R172): what `pump` does until nothing more can be done. -/
namespace Sys2Proof.Machine

/-! ### Forming Notices (R172) -/

section Form
variable {pl : Panel} {mask : BitVec 24} {before after : List PendingNotice} {e : PendingNotice}

/-- A kind of notice is masked. -/
def Masked (mask : BitVec 24) (e : PendingNotice) : Prop := mask.getLsbD (noticeCode e.kind) = true

/-- A Notice can be formed: fewer than 4 stand, and an unmasked entry is pending. -/
def Formable (pl : Panel) : Prop :=
  countFrames .notice pl.upward < 4 ∧ ∃ e ∈ pl.pending, pl.mask.getLsbD (noticeCode e.kind) = false

/-- The panel with a Notice of `e` formed, the entries around it staying pending. -/
def withNotice (before : List PendingNotice) (e : PendingNotice) (after : List PendingNotice) (pl : Panel) : Panel :=
  { pl with
    pending := before ++ after
    upward := pl.upward ++ [⟨.notice, pl.upNumber, [octet (noticeCode e.kind), e.subject.getD 0xFF#8]⟩]
    upNumber := pl.upNumber + 1#8 }

theorem takeNotice_none (h : ∀ e ∈ before, Masked mask e) : takeNotice mask before = none := by
  induction before with
  | nil => rfl
  | cons x rest ih =>
    have hx : mask.getLsbD (noticeCode x.kind) = true := h x List.mem_cons_self
    simp [takeNotice, unmasked, hx, ih fun e he => h e (List.mem_cons_of_mem _ he)]

theorem takeNotice_oldest (hb : ∀ y ∈ before, Masked mask y) (he : mask.getLsbD (noticeCode e.kind) = false) :
    takeNotice mask (before ++ e :: after) = some (e, before ++ after) := by
  induction before with
  | nil => simp [takeNotice, unmasked, he]
  | cons x rest ih =>
    have hx : mask.getLsbD (noticeCode x.kind) = true := hb x List.mem_cons_self
    simp [takeNotice, unmasked, hx, ih fun y hy => hb y (List.mem_cons_of_mem _ hy)]

/-- The oldest unmasked entry stands behind masked ones. -/
theorem exists_oldest {pending : List PendingNotice} (h : ∃ e ∈ pending, mask.getLsbD (noticeCode e.kind) = false) :
    ∃ before e after, pending = before ++ e :: after ∧ mask.getLsbD (noticeCode e.kind) = false
      ∧ ∀ y ∈ before, Masked mask y := by
  induction pending with
  | nil => simp at h
  | cons x rest ih =>
    cases hx : mask.getLsbD (noticeCode x.kind) with
    | false => exact ⟨[], x, rest, rfl, hx, by simp⟩
    | true =>
      obtain ⟨e, he, hm⟩ := h
      obtain rfl | he := List.mem_cons.mp he
      · simp [hx] at hm
      · obtain ⟨before, e, after, rfl, hm, hb⟩ := ih ⟨e, he, hm⟩
        exact ⟨x :: before, e, after, rfl, hm, List.forall_mem_cons.mpr ⟨hx, hb⟩⟩

/-- Every entry pending is masked. -/
def AllMasked (pl : Panel) : Prop := ∀ e ∈ pl.pending, pl.mask.getLsbD (noticeCode e.kind) = true

theorem not_formable (h : AllMasked pl ∨ 4 ≤ countFrames .notice pl.upward) : ¬ Formable pl := by
  rintro ⟨hroom, e, he, hm⟩
  obtain h | h := h
  · simp [h e he] at hm
  · omega

theorem formNotices_still (n : Nat) (h : ¬ Formable pl) : formNotices n pl = pl := by
  cases n with
  | zero => rfl
  | succ n =>
    unfold formNotices
    split
    next hroom =>
      have hnone : takeNotice pl.mask pl.pending = none := takeNotice_none fun e he => by
        by_contra hm
        exact h ⟨hroom, e, he, by simpa [Masked] using hm⟩
      rw [hnone]
    · rfl

theorem formNotices_forms (n : Nat) (hroom : countFrames .notice pl.upward < 4) (hp : pl.pending = before ++ e :: after)
    (he : pl.mask.getLsbD (noticeCode e.kind) = false) (hb : ∀ y ∈ before, Masked pl.mask y) :
    formNotices (n + 1) pl = formNotices n (withNotice before e after pl) := by
  rw [formNotices, if_pos hroom, hp, takeNotice_oldest hb he]
  simp only [noticePayload, withNotice, optOctet_eq]

theorem countFrames_withNotice :
    countFrames .notice (withNotice before e after pl).upward = countFrames .notice pl.upward + 1 := by
  simp [withNotice]

/-- From `m` Notices standing, `4 - m` rounds form all there is room for; more rounds form no more. -/
theorem formNotices_enough {n m : Nat} (hn : 4 ≤ n + countFrames .notice pl.upward)
    (hm : 4 ≤ m + countFrames .notice pl.upward) : formNotices n pl = formNotices m pl := by
  induction n generalizing m pl with
  | zero =>
    have hstill : ¬ Formable pl := not_formable (.inr (by omega))
    rw [formNotices_still 0 hstill, formNotices_still m hstill]
  | succ n ih =>
    by_cases h : Formable pl
    · obtain ⟨hroom, hpending⟩ := h
      obtain ⟨before, e, after, hp, he, hb⟩ := exists_oldest hpending
      obtain ⟨m, rfl⟩ : ∃ k, m = k + 1 := Nat.exists_eq_succ_of_ne_zero (by omega)
      have hcount := countFrames_withNotice (before := before) (e := e) (after := after) (pl := pl)
      rw [formNotices_forms n hroom hp he hb, formNotices_forms m hroom hp he hb]
      exact ih (by omega) (by omega)
    · rw [formNotices_still _ h, formNotices_still _ h]

theorem formNotices_done {n : Nat} (hn : 4 ≤ n + countFrames .notice pl.upward) : ¬ Formable (formNotices n pl) := by
  induction n generalizing pl with
  | zero => exact not_formable (.inr (by rw [formNotices]; omega))
  | succ n ih =>
    by_cases h : Formable pl
    · obtain ⟨hroom, hpending⟩ := h
      obtain ⟨before, e, after, hp, he, hb⟩ := exists_oldest hpending
      have hcount := countFrames_withNotice (before := before) (e := e) (after := after) (pl := pl)
      rw [formNotices_forms n hroom hp he hb]
      exact ih (by omega)
    · rwa [formNotices_still _ h]

end Form

/-! ### What forming and sending leave alone -/

section Stands
variable {pl : Panel}

/-- What the transmitter and the forming of Notices leave alone of the panel link. -/
structure LinkStands (pl pl' : Panel) : Prop where
  errorStatus : pl'.errorStatus = pl.errorStatus
  errorRequest : pl'.errorRequest = pl.errorRequest
  overrun : pl'.overrun = pl.overrun

theorem LinkStands.trans {a b c : Panel} (hab : LinkStands a b) (hbc : LinkStands b c) : LinkStands a c :=
  ⟨hbc.errorStatus.trans hab.errorStatus, hbc.errorRequest.trans hab.errorRequest, hbc.overrun.trans hab.overrun⟩

theorem formNotices_stands (n : Nat) : LinkStands pl (formNotices n pl) ∧ (formNotices n pl).sending = pl.sending := by
  induction n generalizing pl with
  | zero => exact ⟨⟨rfl, rfl, rfl⟩, rfl⟩
  | succ n ih =>
    unfold formNotices
    split
    · split
      next e left _ =>
        obtain ⟨hstands, hsending⟩ := ih (pl := { pl with
          pending := left, upward := pl.upward ++ [⟨.notice, pl.upNumber, noticePayload e⟩], upNumber := pl.upNumber + 1#8 })
        exact ⟨⟨hstands.errorStatus, hstands.errorRequest, hstands.overrun⟩, hsending⟩
      · exact ⟨⟨rfl, rfl, rfl⟩, rfl⟩
    · exact ⟨⟨rfl, rfl, rfl⟩, rfl⟩

theorem startSending_stands : LinkStands pl (startSending pl) := by
  unfold startSending
  split <;> exact ⟨rfl, rfl, rfl⟩

theorem pump_stands : LinkStands pl (pump pl) :=
  ((formNotices_stands 4).1.trans startSending_stands).trans (formNotices_stands 4).1

end Stands

/-! ### Until nothing more can be done (R171, R172) -/

section Pump
variable {pl : Panel}

/-- A busy transmitter begins nothing: Notices alone are formed. -/
theorem pump_busy (h : pl.sending ≠ none) : pump pl = formNotices 4 pl := by
  have hsending : (formNotices 4 pl).sending ≠ none := by rwa [(formNotices_stands 4).2]
  rw [pump, startSending_waits _ (.inl hsending), formNotices_still 4 (formNotices_done (Nat.le_add_right ..))]

theorem pump_forms {before after : List PendingNotice} {e : PendingNotice} (hroom : countFrames .notice pl.upward < 4)
    (hp : pl.pending = before ++ e :: after) (he : pl.mask.getLsbD (noticeCode e.kind) = false)
    (hb : ∀ y ∈ before, Masked pl.mask y) : pump pl = pump (withNotice before e after pl) := by
  have hcount := countFrames_withNotice (before := before) (e := e) (after := after) (pl := pl)
  have hform : formNotices 4 pl = formNotices 4 (withNotice before e after pl) :=
    (formNotices_forms 3 hroom hp he hb).trans (formNotices_enough (by omega) (by omega))
  rw [pump, pump, hform]

theorem pump_sends {f : Frame} {rest : List Frame} (h : ¬ Formable pl) (hs : pl.sending = none) (hu : pl.upward = f :: rest) :
    pump pl = pump { pl with upward := rest, sending := some ⟨f, panelLinkTime (6 + f.payload.length)⟩ } := by
  rw [pump_busy (pl := { pl with upward := rest, sending := some ⟨f, panelLinkTime (6 + f.payload.length)⟩ }) (by simp),
    pump, formNotices_still 4 h, startSending_idle pl f rest hs hu]

theorem pump_rests (h : ¬ Formable pl) (hs : pl.sending ≠ none ∨ pl.upward = []) : pump pl = pl := by
  rw [pump, formNotices_still 4 h, startSending_waits _ hs, formNotices_still 4 h]

end Pump

end Sys2Proof.Machine


/-! Replies and the last error record (R168, R169): what a Request leaves alone whatever its owner. -/
namespace Sys2Proof.Machine

/-! ### The last error record and the time base along a chain of deliveries -/

/-- The last error record and the time base are as they were. -/
structure RecordKept (s t : State) : Prop where
  errorStatus : t.pl.errorStatus = s.pl.errorStatus
  errorRequest : t.pl.errorRequest = s.pl.errorRequest
  timeBase : t.iu.timeBase = s.iu.timeBase

section Record
variable {s t u : State}

theorem RecordKept.refl (s : State) : RecordKept s s := ⟨rfl, rfl, rfl⟩

theorem RecordKept.trans (h : RecordKept s t) (h' : RecordKept t u) : RecordKept s u :=
  ⟨h'.errorStatus.trans h.errorStatus, h'.errorRequest.trans h.errorRequest, h'.timeBase.trans h.timeBase⟩

/-- A change of the Intake Unit that keeps its time base. -/
theorem record_line {iu : Intake} (h : iu.timeBase = s.iu.timeBase) : RecordKept s { s with iu := iu } := ⟨rfl, rfl, h⟩

/-- A change of the panel link that leaves its error record alone. -/
theorem record_panel {pl : Panel} (h : LinkStands s.pl pl) : RecordKept s { s with pl := pl } :=
  ⟨h.errorStatus, h.errorRequest, rfl⟩

theorem LinkStands.pump {pl pl' : Panel} (h : LinkStands pl pl') : LinkStands pl (pump pl') := h.trans pump_stands

theorem post_stands (kind : NoticeKind) (subject : Option Byte) (pl : Panel) : LinkStands pl (post kind subject pl) := by
  unfold post
  refine LinkStands.pump ?_
  split <;> exact ⟨rfl, rfl, rfl⟩

theorem placeRelay_stands (payload : List Byte) (pl : Panel) : LinkStands pl (placeRelay payload pl) := by
  unfold placeRelay
  refine LinkStands.pump ?_
  split <;> exact ⟨rfl, rfl, rfl⟩

@[simp] theorem retime_timeBase (old new : Option Nat) (iu : Intake) : (retime old new iu).timeBase = iu.timeBase := by
  unfold retime
  split
  · exact useFreeLine_kept.timeBase
  · exact useFreeLine_kept.timeBase
  · split <;> exact useFreeLine_kept.timeBase

@[simp] theorem polarityLoaded_timeBase (before new : PolaritySetting) (iu : Intake) :
    (polarityLoaded before new iu).timeBase = iu.timeBase := by
  unfold polarityLoaded
  split
  · rfl
  · split <;> rfl

/-- No delivery touches the last error record or the time base. -/
theorem route_record (sig : Signal) : RecordKept s (route sig s).1 := by
  cases sig with
  | notice kind subject => exact record_panel (post_stands kind subject s.pl)
  | relay payload => exact record_panel (placeRelay_stands payload s.pl)
  | modeChange old new oldSource => exact ⟨rfl, rfl, retime_timeBase ..⟩
  | sourceChange old new => exact record_line (retime_timeBase ..)
  | settingsLoaded before => exact ⟨rfl, rfl, polarityLoaded_timeBase ..⟩
  | unitState state =>
    unfold route routeUnitState
    dsimp only
    split <;> exact ⟨rfl, rfl, rfl⟩
  | largestDemand d =>
    unfold route routeLargest
    dsimp only
    split <;> exact ⟨rfl, rfl, rfl⟩
  | _ => exact ⟨rfl, rfl, rfl⟩

theorem settle_record (signals : List Signal) : RecordKept s (settle signals s) := by
  unfold settle
  generalize chainBound = n
  induction n generalizing signals s with
  | zero => exact .refl s
  | succ n ih =>
    cases signals with
    | nil => exact .refl s
    | cons sig rest => exact (route_record sig).trans (ih _)

theorem RecordKept.settle (signals : List Signal) (h : RecordKept s t) : RecordKept s (settle signals t) :=
  h.trans (settle_record signals)

end Record

/-! ### The answers of the owners (R168 step 4) -/

/-- An answer refuses and changes nothing, or it carries the request out and leaves the error record and the time base
alone. -/
inductive Answers (s : State) : Answer → Prop where
  | refused (status : Status) : Answers s (refuse status s)
  | carriedOut {a : Answer} (h : a.status = .done ∨ a.status = .clamped) (kept : RecordKept s a.state) : Answers s a

section Owners
variable {s : State} {a : Answer}

theorem Answers.stands (h : Answers s a) (hd : a.status ≠ .done) (hc : a.status ≠ .clamped) : a.state = s ∧ a.data = [] := by
  cases h with
  | refused status => exact ⟨rfl, rfl⟩
  | carriedOut h _ => exact absurd h (not_or.mpr ⟨hd, hc⟩)

theorem Answers.record (h : Answers s a) : RecordKept s a.state := by
  cases h with
  | refused status => exact .refl s
  | carriedOut _ kept => exact kept

theorem Answers.carried {t : State} (h : RecordKept s t) : Answers s (carried t) := .carriedOut (.inl rfl) h

/-- A carried request whose block's change keeps the record, with what it delivers. -/
theorem Answers.settled {t : State} (signals : List Signal) (h : RecordKept s t) :
    Answers s (Machine.carried (settle signals t)) := .carried (h.settle signals)

theorem takeMode_record (new : UnitMode) (source : ServiceSource) : RecordKept s (takeMode new source s) := by
  unfold takeMode
  split
  · unfold changeMode
    exact RecordKept.settle _ ⟨rfl, rfl, rfl⟩
  · split
    · exact RecordKept.settle _ ⟨rfl, rfl, rfl⟩
    · split
      · exact settle_record _
      · exact .refl s

variable (fields : List Byte)

theorem answerSetMode_answers : Answers s (answerSetMode fields s) := by
  unfold answerSetMode
  split
  · split
    · exact .refused _
    · exact .carried (takeMode_record ..)
    · exact .refused _
  · split
    · split
      · exact .carried (takeMode_record ..)
      · exact .refused _
    · exact .refused _
  · exact .refused _

theorem answerUnitSettings_answers : Answers s (answerUnitSettings fields s) := by
  unfold answerUnitSettings
  split
  · exact .refused _
  · split
    · exact .refused _
    · exact .settled _ ⟨rfl, rfl, rfl⟩

theorem answerZoneTargets_answers : Answers s (answerZoneTargets fields s) := by
  unfold answerZoneTargets
  split
  · exact .refused _
  · refine .carriedOut ?_ (RecordKept.settle _ ⟨rfl, rfl, rfl⟩)
    dsimp only
    split
    · exact .inl rfl
    · exact .inr rfl

theorem answerZoneEntry_answers : Answers s (answerZoneEntry fields s) := by
  unfold answerZoneEntry
  split
  · exact .refused _
  · split
    · exact .refused _
    · split
      · exact .refused _
      · exact .settled _ ⟨rfl, rfl, rfl⟩

theorem answerPollList_answers : Answers s (answerPollList fields s) := by
  unfold answerPollList
  split
  · exact .refused _
  · split
    · split
      · exact .refused _
      · split
        · exact .refused _
        · exact .settled _ (record_line loadPollList_kept.timeBase)
    · exact .refused _

theorem messageMayStart_timeBase (iu : Intake) : (messageMayStart iu).timeBase = iu.timeBase := by
  unfold messageMayStart
  split
  · exact startMessage_kept.timeBase
  · rfl

theorem answerForward_answers : Answers s (answerForward fields s) := by
  unfold answerForward
  split
  · exact .refused _
  · split
    · exact .refused _
    · split
      · exact .refused _
      · split
        · exact .refused _
        · split
          · exact .refused _
          · exact .carried (record_line (messageMayStart_timeBase _))

theorem injectReading_timeBase (address : Nat) (reading : Reading) (iu : Intake) :
    (injectReading address reading iu).1.timeBase = iu.timeBase := by
  unfold injectReading
  split <;> rfl

theorem answerInject_answers : Answers s (answerInject fields s) := by
  unfold answerInject
  split
  · split
    · exact .refused _
    · exact .settled _ (record_line (injectReading_timeBase ..))
  · exact .refused _

theorem answerLineReset_answers : Answers s (answerLineReset s) :=
  .settled _ (record_line (by
    rw [resetLine_eq]
    exact useFreeLine_kept.timeBase))

theorem answerRampProfile_answers : Answers s (answerRampProfile fields s) := by
  unfold answerRampProfile
  split
  · exact .refused _
  · split
    · exact .refused _
    · split
      · exact .refused _
      · split
        · split
          · exact .carried ⟨rfl, rfl, rfl⟩
          · exact .refused _
        · exact .refused _

theorem answerDamperEntry_answers : Answers s (answerDamperEntry fields s) := by
  unfold answerDamperEntry
  split
  · exact .refused _
  · split
    · exact .refused _
    · dsimp only
      split
      · exact .refused _
      · exact .settled _ ⟨rfl, rfl, rfl⟩

theorem answerFanCurve_answers : Answers s (answerFanCurve fields s) := by
  unfold answerFanCurve
  dsimp only
  split
  · exact .carried ⟨rfl, rfl, rfl⟩
  · exact .refused _

theorem answerFilterClass_answers : Answers s (answerFilterClass fields s) := by
  unfold answerFilterClass
  split
  · exact .refused _
  · split
    · exact .refused _
    · split
      · exact .refused _
      · split
        · exact .refused _
        · exact .carried ⟨rfl, rfl, rfl⟩

theorem answerFilterReplaced_answers : Answers s (answerFilterReplaced fields s) := by
  unfold answerFilterReplaced
  split
  · split
    · exact .refused _
    · exact .settled _ ⟨rfl, rfl, rfl⟩
  · exact .refused _

theorem answerClearLockout_answers : Answers s (answerClearLockout s) := by
  unfold answerClearLockout
  split
  · exact .settled _ ⟨rfl, rfl, rfl⟩
  · exact .refused _

theorem driveBlower_record (demand : Option Half) : RecordKept s (driveBlower demand s) := by
  unfold driveBlower
  split <;> exact ⟨rfl, rfl, rfl⟩

theorem drivePump_record (request : Option Byte) : RecordKept s (drivePump request s) := by
  unfold drivePump
  split <;> exact ⟨rfl, rfl, rfl⟩

theorem driveCompressor_record (request : Option Byte) : RecordKept s (driveCompressor request s) := by
  unfold driveCompressor
  split <;> exact ⟨rfl, rfl, rfl⟩

theorem driveParts_record (p : ServiceParts) : RecordKept s (driveParts p s) := by
  have hdampers : RecordKept (driveBlower p.blower s) (driveDampers p.dampers (driveBlower p.blower s)) := ⟨rfl, rfl, rfl⟩
  exact (((driveBlower_record p.blower).trans hdampers).trans (drivePump_record p.pump)).trans
    (driveCompressor_record p.compressor)

theorem answerDrive_answers : Answers s (answerDrive fields s) := by
  unfold answerDrive
  split
  · exact .refused _
  · split
    · exact .refused _
    · split
      · exact .refused _
      · split
        · exact .refused _
        · split
          · exact .refused _
          · split
            · exact .refused _
            · split
              · exact .refused _
              · exact .carried (driveParts_record _)

theorem answerStoreRead_answers : Answers s (answerStoreRead fields s) := by
  unfold answerStoreRead
  dsimp only
  split
  · exact .refused _
  · split
    · exact .refused _
    · exact .carriedOut (.inl rfl) (.refl s)

theorem answerStoreWrite_answers : Answers s (answerStoreWrite fields s) := by
  unfold answerStoreWrite
  dsimp only
  split
  · exact .refused _
  · split
    · exact .refused _
    · exact .carried ⟨rfl, rfl, rfl⟩

theorem answerNoticeMask_answers : Answers s (answerNoticeMask fields s) := by
  unfold answerNoticeMask
  dsimp only
  split
  · exact .refused _
  · exact .carried (record_panel (LinkStands.pump ⟨rfl, rfl, rfl⟩))

theorem answerClearNotices_answers : Answers s (answerClearNotices fields s) := by
  unfold answerClearNotices
  dsimp only
  split
  · exact .refused _
  · exact .carried ⟨rfl, rfl, rfl⟩

theorem answerReadTable_answers : Answers s (answerReadTable fields s) := by
  have read (table : List Byte) : Answers s ⟨.done, [byteAt 0 fields, byteAt 1 fields] ++ table, s⟩ :=
    .carriedOut (.inl rfl) (.refl s)
  unfold answerReadTable
  dsimp only
  split
  · exact read _
  · exact read _
  · split
    · exact read _
    · exact .refused _
  · split
    · exact read _
    · exact .refused _
  · split
    · exact read _
    · exact .refused _
  · exact read _
  · exact .refused _

theorem answerReadNode_answers : Answers s (answerReadNode fields s) := by
  unfold answerReadNode
  split
  · exact .refused _
  · exact .carriedOut (.inl rfl) ⟨rfl, rfl, rfl⟩

theorem answerReadZone_answers : Answers s (answerReadZone fields s) := by
  unfold answerReadZone
  split
  · exact .refused _
  · exact .carriedOut (.inl rfl) ⟨rfl, rfl, rfl⟩

theorem answerReadStage_answers : Answers s (answerReadStage fields s) := by
  unfold answerReadStage
  split
  · exact .carriedOut (.inl rfl) ⟨rfl, rfl, rfl⟩
  · split
    · exact .carriedOut (.inl rfl) ⟨rfl, rfl, rfl⟩
    · exact .refused _

/-- Read Status of any page but page 0, which alone clears the error record (R169, R174). -/
theorem answerReadStatus_answers (h : byteAt 0 fields ≠ 0#8) : Answers s (answerReadStatus fields s) := by
  have hpage : (byteAt 0 fields).toNat ≠ 0 := fun hz => h (BitVec.eq_of_toNat_eq hz)
  unfold answerReadStatus
  dsimp only
  split
  next hz => exact absurd hz hpage
  · exact .carriedOut (.inl rfl) (.refl s)
  · exact .carriedOut (.inl rfl) (.refl s)
  · exact .carriedOut (.inl rfl) (.refl s)
  · exact .carriedOut (.inl rfl) ⟨rfl, rfl, rfl⟩
  · exact .refused _

theorem ownerAnswer_answers (kind : RequestKind) (h : kind = .readStatus → byteAt 0 fields ≠ 0#8) :
    Answers s (ownerAnswer kind fields s) := by
  cases kind with
  | setMode => exact answerSetMode_answers fields
  | setZoneTargets => exact answerZoneTargets_answers fields
  | loadZoneEntry => exact answerZoneEntry_answers fields
  | loadPollList => exact answerPollList_answers fields
  | loadFanCurve => exact answerFanCurve_answers fields
  | loadRampProfile => exact answerRampProfile_answers fields
  | loadFilterClass => exact answerFilterClass_answers fields
  | loadDamperEntry => exact answerDamperEntry_answers fields
  | loadUnitSettings => exact answerUnitSettings_answers fields
  | readTable => exact answerReadTable_answers fields
  | readStatus => exact answerReadStatus_answers fields (h rfl)
  | readNode => exact answerReadNode_answers fields
  | readZone => exact answerReadZone_answers fields
  | readStage => exact answerReadStage_answers fields
  | filterReplaced => exact answerFilterReplaced_answers fields
  | forwardToNode => exact answerForward_answers fields
  | setNoticeMask => exact answerNoticeMask_answers fields
  | clearNotices => exact answerClearNotices_answers fields
  | clearLockout => exact answerClearLockout_answers
  | serviceDrive => exact answerDrive_answers fields
  | injectSample => exact answerInject_answers fields
  | storeRead => exact answerStoreRead_answers fields
  | storeWrite => exact answerStoreWrite_answers fields
  | zoneLineReset => exact answerLineReset_answers
  | readFinishCauses => exact .carriedOut (.inl rfl) (.refl s)
  | readCounters => exact .carriedOut (.inl rfl) (.refl s)
  | clearPumpFault => exact .carried ⟨rfl, rfl, rfl⟩
  | restart => exact .carried ⟨rfl, rfl, rfl⟩

end Owners

/-- Only 0Bh is the number of Read Status (Table 11-2). -/
theorem requestOf_readStatus {number : Byte} (h : requestOf number = some .readStatus) : number = 0x0B#8 := by
  unfold requestOf at h
  split at h
  case h_11 hn => exact BitVec.eq_of_toNat_eq hn
  all_goals cases h

/-- Every Request but Read Status of page 0 refuses or leaves the error record alone. -/
theorem answer_answers {payload : List Byte} (s : State) (h : payload ≠ [0x0B#8, 0x00#8]) :
    Answers s (answer payload s) := by
  unfold answer
  split
  · exact .refused _
  next number fields =>
    split
    · exact .refused _
    next kind hk =>
      split
      next hlen =>
        refine ownerAnswer_answers fields kind ?_
        rintro rfl hz
        obtain rfl := requestOf_readStatus hk
        obtain ⟨page, rfl⟩ : ∃ page, fields = [page] :=
          List.length_eq_one_iff.mp (by simpa [lengthHolds, fixedLength] using hlen)
        obtain rfl : page = 0#8 := hz
        exact h rfl
      · exact .refused _

/-! ### The Reply (R168, R169) -/

section Reply
variable {tag number : Byte} {status : Status} {data : List Byte} {pl : Panel}

/-- The panel link with the last error record taking a status other than Done and Clamped (R169). -/
def withError (number : Byte) (status : Status) (pl : Panel) : Panel :=
  if status = .done ∨ status = .clamped then pl else { pl with errorStatus := status, errorRequest := number }

/-- The Reply frame of a Request (R168). -/
def replyFrame (tag number : Byte) (status : Status) (data : List Byte) : Frame :=
  ⟨.reply, tag, [number, statusCode status] ++ data⟩

theorem withError_rest : (withError number status pl).upward = pl.upward ∧ (withError number status pl).pending = pl.pending
    ∧ (withError number status pl).mask = pl.mask ∧ (withError number status pl).sending = pl.sending
    ∧ (withError number status pl).overrun = pl.overrun := by
  unfold withError
  split <;> exact ⟨rfl, rfl, rfl, rfl, rfl⟩

theorem placeReply_eq : placeReply tag number status data pl =
    pump { withError number status pl with upward := pl.upward ++ [replyFrame tag number status data] } :=
  congrArg (fun upward => pump { withError number status pl with upward := upward ++ [replyFrame tag number status data] })
    withError_rest.1

theorem not_formable_reply {upward : List Frame} (h : AllMasked pl ∨ 4 ≤ countFrames .notice upward) :
    ¬ Formable { withError number status pl with upward := upward ++ [replyFrame tag number status data] } := by
  obtain ⟨-, hpending, hmask, -, -⟩ := withError_rest (number := number) (status := status) (pl := pl)
  refine not_formable (h.imp (fun hall e he => ?_) fun hfull => ?_)
  · rw [show (withError number status pl).mask = pl.mask from hmask]
    exact hall e (hpending ▸ he)
  · simp only [countFrames_append]
    omega

/-- Behind a frame in transmission the Reply joins the back of the queue. -/
theorem placeReply_waits {x : Sending} (hs : pl.sending = some x) (h : AllMasked pl ∨ 4 ≤ countFrames .notice pl.upward) :
    placeReply tag number status data pl =
      { withError number status pl with upward := pl.upward ++ [replyFrame tag number status data] } := by
  obtain ⟨-, -, -, hsending, -⟩ := withError_rest (number := number) (status := status) (pl := pl)
  rw [placeReply_eq]
  refine pump_rests (not_formable_reply h) (.inl ?_)
  change (withError number status pl).sending ≠ none
  simp [hsending, hs]

/-- On an idle transmitter with an empty queue the Reply begins at once. -/
theorem placeReply_begins (hs : pl.sending = none) (hu : pl.upward = []) (h : AllMasked pl) :
    placeReply tag number status data pl = { withError number status pl with
      sending := some ⟨replyFrame tag number status data,
        panelLinkTime (6 + (replyFrame tag number status data).payload.length)⟩ } := by
  obtain ⟨hupward, hpending, hmask, hsending, -⟩ := withError_rest (number := number) (status := status) (pl := pl)
  rw [placeReply_eq, pump_sends (f := replyFrame tag number status data) (rest := []) (not_formable_reply (.inl h))
    (hsending.trans hs) (by rw [hu]; rfl), pump_rests]
  · rw [← hu, ← hupward]
  · refine not_formable (.inl fun e he => ?_)
    change (withError number status pl).mask.getLsbD _ = true
    rw [hmask]
    exact h e (hpending ▸ he)
  · exact .inr rfl

theorem placeReply_stands : LinkStands (withError number status pl) (placeReply tag number status data pl) := by
  rw [placeReply_eq]
  exact LinkStands.pump ⟨rfl, rfl, rfl⟩

theorem placeReply_error (hd : status ≠ .done) (hc : status ≠ .clamped) :
    (placeReply tag number status data pl).errorStatus = status
    ∧ (placeReply tag number status data pl).errorRequest = number := by
  have hnoted : withError number status pl = { pl with errorStatus := status, errorRequest := number } :=
    if_neg (not_or.mpr ⟨hd, hc⟩)
  have hstands := placeReply_stands (tag := tag) (number := number) (status := status) (data := data) (pl := pl)
  rw [hnoted] at hstands
  exact ⟨hstands.errorStatus, hstands.errorRequest⟩

theorem placeReply_done (h : status = .done ∨ status = .clamped) : LinkStands pl (placeReply tag number status data pl) := by
  have hnoted : withError number status pl = pl := if_pos h
  have hstands := placeReply_stands (tag := tag) (number := number) (status := status) (data := data) (pl := pl)
  rwa [hnoted] at hstands

end Reply

/-- The answer to Read Status of page 0. -/
theorem answer_page0 (s : State) : answer [0x0B#8, 0x00#8] s = answerReadStatus [0x00#8] s := rfl

/-- Settles O53: the Reply at a busy and at an idle transmitter, and the answers of all owners. -/
theorem repliesAndErrors : Obligations.RepliesAndErrors := by
  unfold Obligations.RepliesAndErrors
  refine ⟨?reply, fun payload s a ha => ?requests⟩
  case reply =>
    rintro tag number status data pl noted f rfl rfl
    exact ⟨fun x hs h => placeReply_waits hs h, placeReply_begins⟩
  case requests =>
    obtain rfl := ha
    by_cases hpage : payload = [0x0B#8, 0x00#8]
    · obtain rfl := hpage
      have hdone : (answer [0x0B#8, 0x00#8] s).status = .done := rfl
      have hcleared (tag : Byte) := placeReply_done (tag := tag) (number := 0x0B#8) (data := (answer [0x0B#8, 0x00#8] s).data)
        (pl := (answer [0x0B#8, 0x00#8] s).state.pl) (.inl hdone)
      exact ⟨fun hd => absurd hdone hd, fun tag => rfl, fun tag hd => absurd hdone hd, fun tag _ hne => absurd rfl hne,
        fun tag _ => ⟨(hcleared tag).errorStatus, (hcleared tag).errorRequest, (hcleared tag).overrun⟩, fun tag => rfl⟩
    · have hanswers := answer_answers s hpage
      exact ⟨hanswers.stands, fun tag => rfl, fun tag hd hc => placeReply_error hd hc, fun tag hdone _ =>
        ⟨(placeReply_done hdone).errorStatus.trans hanswers.record.errorStatus,
          (placeReply_done hdone).errorRequest.trans hanswers.record.errorRequest⟩,
        fun tag h => absurd h hpage, fun tag => hanswers.record.timeBase⟩

end Sys2Proof.Machine


/-! The panel link's own doings (R166, R171 to R173): posts, Relays, the end of an upward frame and its octets. -/
namespace Sys2Proof.Machine

/-! ### Posts and Relays -/

section Place
variable {pl : Panel}

theorem post_eq (kind : NoticeKind) (subject : Option Byte) : post kind subject pl = pump { pl with
    pending := if (⟨kind, subject⟩ : PendingNotice) ∈ pl.pending then pl.pending else pl.pending ++ [⟨kind, subject⟩] } := by
  unfold post
  split <;> rfl

theorem placeRelay_joins (payload : List Byte) (h : countFrames .relay pl.upward < 16) :
    placeRelay payload pl = pump { pl with
      upward := pl.upward ++ [⟨.relay, pl.upNumber, payload⟩], upNumber := pl.upNumber + 1#8 } := by
  simp only [placeRelay, if_neg (Nat.not_le.mpr h)]

theorem dropOldestRelay_split {before after : List Frame} {r : Frame} (hr : r.kind = .relay)
    (hb : ∀ f ∈ before, f.kind ≠ .relay) : dropOldestRelay (before ++ r :: after) = before ++ after := by
  induction before with
  | nil => exact if_pos hr
  | cons f rest ih =>
    rw [List.cons_append, dropOldestRelay, if_neg (hb f List.mem_cons_self), ih fun g hg => hb g (List.mem_cons_of_mem _ hg)]
    rfl

/-- A Relay that finds 16 standing removes the oldest and is counted (R171). -/
theorem placeRelay_removes (payload : List Byte) {before after : List Frame} {r : Frame}
    (h : 16 ≤ countFrames .relay pl.upward) (hu : pl.upward = before ++ r :: after) (hr : r.kind = .relay)
    (hb : ∀ f ∈ before, f.kind ≠ .relay) :
    placeRelay payload pl = pump { pl with
      upward := before ++ after ++ [⟨.relay, pl.upNumber, payload⟩], upNumber := pl.upNumber + 1#8
      relaysDropped := pl.relaysDropped + 1#16 } := by
  have hdrop : dropOldestRelay pl.upward = before ++ after := hu ▸ dropOldestRelay_split hr hb
  simp only [placeRelay, if_pos h, hdrop]

/-- The one Notice there is room for is formed, and no other (R172). -/
theorem pump_formsOne {before after : List PendingNotice} {e : PendingNotice} (hs : pl.sending ≠ none)
    (hp : pl.pending = before ++ e :: after) (hcount : countFrames .notice pl.upward = 3)
    (he : pl.mask.getLsbD (noticeCode e.kind) = false) (hb : ∀ y ∈ before, Masked pl.mask y) :
    pump pl = withNotice before e after pl := by
  have hfull := countFrames_withNotice (before := before) (e := e) (after := after) (pl := pl)
  rw [pump_forms (by omega) hp he hb]
  exact pump_rests (not_formable (.inr (by omega))) (.inl hs)

end Place

/-! ### The end of an upward frame (R168, R170 to R172) -/

section FrameEnd
variable {s : State}

theorem restartReplyLeaves_false {x : Sending} (hs : s.pl.sending = some x)
    (h : s.pl.restartPending = false ∨ ¬ (x.frame.kind = .reply ∧ x.frame.payload = [0x1C#8, 0x00#8])) :
    restartReplyLeaves s.pl = false := by
  simp only [restartReplyLeaves, hs, isRestartReply]
  obtain h | h := h
  · rw [h, Bool.false_and]
  · rw [Bool.and_eq_false_iff]
    right
    simpa using h

theorem frameEnd_sent {x : Sending} (hs : s.pl.sending = some x) (h : restartReplyLeaves s.pl = false) :
    frameEnd s = takeAll { s with pl := pump { s.pl with sending := none } } := by
  simp [frameEnd, h, hs]

theorem frameEnd_idle (hs : s.pl.sending = none) : frameEnd s = s := by
  simp [frameEnd, restartReplyLeaves, hs]

theorem takeAll_none (h : s.pl.requests = []) : takeAll s = s := by
  simp [takeAll, h, takeRequests]

/-- The panel with the transmitter on its way with a frame taken from the front. -/
def withSending (f : Frame) (rest : List Frame) (pl : Panel) : Panel :=
  { pl with upward := rest, sending := some ⟨f, panelLinkTime (6 + f.payload.length)⟩ }

variable {f : Frame} {rest : List Frame}

/-- The next frame begins; with every pending entry masked no Notice is formed. -/
theorem pump_sendsNext (hu : s.pl.upward = f :: rest) (hmasked : AllMasked s.pl) :
    pump { s.pl with sending := none } = withSending f rest s.pl := by
  refine (pump_sends (pl := { s.pl with sending := none }) (not_formable (.inl hmasked)) rfl hu).trans ?_
  exact pump_rests (not_formable (.inl hmasked)) (.inl (by simp))

/-- The departure of a Notice, the fourth that stood, lets one more be formed (R172). -/
theorem pump_sendsNotice {before after : List PendingNotice} {e : PendingNotice} (hu : s.pl.upward = f :: rest)
    (hf : f.kind = .notice) (hcount : countFrames .notice rest = 3) (hp : s.pl.pending = before ++ e :: after)
    (he : s.pl.mask.getLsbD (noticeCode e.kind) = false) (hb : ∀ y ∈ before, Masked s.pl.mask y) :
    pump { s.pl with sending := none } = withNotice before e after (withSending f rest s.pl) := by
  have hfull : 4 ≤ countFrames .notice s.pl.upward := by
    rw [hu, countFrames_cons, if_pos hf]
    omega
  refine (pump_sends (pl := { s.pl with sending := none }) (not_formable (.inr hfull)) rfl hu).trans ?_
  exact pump_formsOne (by simp) hp hcount he hb

end FrameEnd

/-- The octets of the frame in transmission (R166, Table 11-4). -/
theorem upwardOctets_sending {pl : Panel} {f : Frame} {left : Nat} (h : pl.sending = some ⟨f, left⟩) :
    upwardOctets pl = frameOctets f := by
  simp only [upwardOctets, h]

/-- Settles O54: forming and sending, posts and Relays, the end of a frame with what it lets be formed, sent and taken, the
octets, and the two notice requests. -/
theorem noticesAndFrames : Obligations.NoticesAndFrames := by
  unfold Obligations.NoticesAndFrames
  refine ⟨fun pl formable hf => ?forming, ?posts, fun s => rfl, fun s x hs => ⟨fun before e after hp hcount he hb => ?formsOne,
    fun h => ?formsNone⟩, fun payload pl => ⟨placeRelay_joins payload, fun before r after h hu hr hb => ?relay⟩,
    fun s x hs h => ?ends, fun s hs => congrArg Host.Outcome.next (frameEnd_idle hs), ?octets, fun tag bits s hr => ?requests⟩
  case forming =>
    have hnot (h : ¬ formable) : ¬ Formable pl := mt hf.mpr h
    exact ⟨fun before e after hroom hp he hb => pump_forms hroom hp he hb, fun f rest h hs hu => pump_sends (hnot h) hs hu,
      fun x h hs => pump_rests (hnot h) (.inl (by simp [hs])), fun h hu => pump_rests (hnot h) (.inr hu)⟩
  case posts =>
    rintro kind subject pl e rfl
    exact post_eq kind subject
  case formsOne =>
    exact congrArg (fun pl => Host.Outcome.next { s with pl := pl }) (pump_formsOne (by simp [hs]) hp hcount he hb)
  case formsNone =>
    exact congrArg (fun pl => Host.Outcome.next { s with pl := pl }) (pump_rests (not_formable h) (.inl (by simp [hs])))
  case relay => exact placeRelay_removes payload h hu hr hb
  case ends =>
    have sent := frameEnd_sent hs (restartReplyLeaves_false hs h)
    have ended {pl : Panel} {t : State} (hpump : pump { s.pl with sending := none } = pl)
        (htake : takeAll { s with pl := pl } = t) : exec .upwardFrameEnd s = .next t := by
      rw [← htake, ← hpump]
      exact congrArg Host.Outcome.next sent
    refine ⟨congrArg Host.Outcome.next sent, fun f rest before e after hu hq hk hcount hp he hb => ?_, fun hmasked =>
      ⟨fun hu hq => ?_, fun f rest hu hq => ?_, fun f rest r hu hq hroom hr => ?_⟩⟩
    · exact ended (pump_sendsNotice hu hk hcount hp he hb) (takeAll_none hq)
    · exact ended (pump_rests (not_formable (.inl hmasked)) (.inr hu)) (takeAll_none hq)
    · exact ended (pump_sendsNext hu hmasked) (takeAll_none hq)
    · exact ended (pump_sendsNext hu hmasked)
        (takeAll_front (s := { s with pl := withSending f rest s.pl }) hq (canTake_true hroom hr))
  case octets =>
    rintro f left pl body rfl
    refine ⟨fun h => (upwardOctets_sending h).trans ?_, fun h => ?_⟩
    · unfold frameOctets withCheck frameKindCode
      cases f.kind <;> rfl
    · simp only [upwardOctets, h]
  case requests =>
    refine ⟨fun hbad => ⟨?_, ?_⟩, fun hgood => ⟨?_, ?_⟩⟩
    · exact exec_setNoticeMask_ready bits tag hr ((answerNoticeMask_of bits s).trans (if_pos hbad))
    · exact exec_clearNotices_ready bits tag hr ((answerClearNotices_of bits s).trans (if_pos hbad))
    · exact exec_setNoticeMask_ready bits tag hr ((answerNoticeMask_of bits s).trans (if_neg (not_not.mpr hgood)))
    · exact exec_clearNotices_ready bits tag hr ((answerClearNotices_of bits s).trans (if_neg (not_not.mpr hgood)))

end Sys2Proof.Machine
